-- ==== Sys2Proof/Word.lean ====
section
/-!
DEFINITION. The word types of the machine and the numbers that name its registers.
-/

namespace Sys2Proof

/-- A byte of memory (20_memory.md R51). -/
abbrev Byte := BitVec 8

/-- A general register, an address or an instruction: `XLEN` = 32 bits (00_scope.md R4). -/
abbrev Word := BitVec 32

/-- A double-precision pattern, two slots of the VFP bank (10_state.md R31). -/
abbrev Dword := BitVec 64

/-- The number of a general register, `r0` to `r15` (10_state.md R20). -/
abbrev Reg := BitVec 4

/-- The number of a single-precision VFP register, `s0` to `s31` (10_state.md R30). -/
abbrev SReg := BitVec 5

/-- The number of a double-precision VFP register, `d0` to `d15` (10_state.md R30). -/
abbrev DReg := BitVec 4

end Sys2Proof
end

