-- ==== Sys2Proof/Config.lean ====
section
/-!
DEFINITION. What an implementation fixes: the types of the open parameters of 00_scope.md R4, the record
`Setup` of the parameters that are plain data, and, as constants without a body, the parameters that are
functions (`SWI_MAP`, `INT_CODE`, `FAULT_CODE` and the record `FPNUM`).
-/

namespace Sys2Proof

/-- The result codes of `run` (00_scope.md glossary, 60_exceptions.md R430). Not asynchronous interrupts. -/
inductive Interrupt where
  | resume | stop | suspend | fatal | undefined
deriving DecidableEq, Repr, Inhabited

/-- The reasons of `Unimplemented` (60_exceptions.md R431). Safe: each is an outcome the spec names. -/
inductive UnimplReason where
  /-- Data processing, opcode 8 to 11, `S = 0` (R185). -/
  | psrTransfer
  /-- Data processing, `S = 1`, `Rd = 15` (R184). -/
  | flagsWithPcDest
  /-- Data processing, register shift form with bit 7 = 1 (30_encoding.md R105). -/
  | badShiftEncoding
  /-- Halfword format with `S:H = 00` (R251). -/
  | halfwordSH00
  /-- Halfword format, `L = 0`, `S = 1` (R251). -/
  | halfwordSignedStore
  /-- Block transfer with bit 22 = 1 (R284). -/
  | blockTransferSBit
  /-- A coprocessor word with nothing attached, or for another coprocessor (R335). -/
  | noCoprocessor
  /-- An unrecognised VFP opcode (R416). -/
  | vfpOpcode
  /-- A double register with its extension bit set, or a pair starting at `s31` (R364, R408). -/
  | vfpRegister
  /-- FMXR, and FMRX of anything but FPSID (R404). -/
  | vfpSystemRegister
  /-- A VFP transfer submode without a meaning (R416, R418). -/
  | vfpAddressingMode
  /-- A VFP multiple transfer with an empty or overlong list (R419). -/
  | vfpRegisterList
deriving DecidableEq, Repr

/-- The names of the faults, as the table of 60_exceptions.md R431 lists them. -/
inductive FaultName where
  | undefined
  | unimplemented (why : UnimplReason)
  | segFault
  | outOfRange
deriving DecidableEq, Repr

/-- `MEM_VARIANT`: the two memory backends (20_memory.md R56, R57). -/
inductive MemVariant where
  | raw   -- no permission check
  | prot  -- the Protected variant
deriving DecidableEq, Repr

/-- The permission of an access range (20_memory.md R57). -/
inductive Permission where
  | read | write | readWrite
deriving DecidableEq, Repr

/-- The kind of an access (20_memory.md R57, R61). -/
inductive AccessKind where
  | read | write
deriving DecidableEq, Repr

/-- One entry of `ACCESS_RANGES` (20_memory.md R57). -/
structure AccessRange where
  start : Word
  size  : Nat
  perm  : Permission
deriving DecidableEq, Repr

/-- `COPROC`: the attached coprocessor (00_scope.md R4). -/
inductive Coproc where
  | absent  -- `None`
  | vfp
deriving DecidableEq, Repr

/-- `COND_1111`: what a word with condition field `1111` does (40_decode.md R125). -/
inductive Cond1111 where
  | fault  -- `Fault(Undefined)`, the value of this hardware
  | never  -- the alternative: a condition that always fails
deriving DecidableEq, Repr

/-- The addressing modes of a VFP data transfer (49_vfp.md R418). -/
inductive DtMode where
  | offset | ia | iaw | dbw
deriving DecidableEq, Repr

/-- `VFP_DT_MODES`: which modes have a meaning beside Offset, which the set always contains (49_vfp.md
R418). -/
structure DtModes where
  ia  : Bool
  iaw : Bool
  dbw : Bool
deriving DecidableEq, Repr

/-- `OFF_*`: what is added to the stored `x[15]` when register 15 is read, one number per read site
(41_shifter.md R150, in the order of its table). -/
structure Offsets where
  branch   : Nat
  link     : Nat
  dpRn     : Nat
  dpRmImm  : Nat
  dpRmReg  : Nat
  dpRs     : Nat
  sdtBase  : Nat
  sdtRm    : Nat
  sdtStore : Nat
  hdtBase  : Nat
  hdtRm    : Nat
  hdtStore : Nat
  stmStore : Nat
  bdtBase  : Nat
  mul      : Nat
  swp      : Nat
  bx       : Nat
  cop      : Nat
deriving DecidableEq, Repr

/-- The parameters of the machine that are plain data, fixed for its life (00_scope.md R4, R11). -/
structure Setup where
  /-- `MEM_SIZE`: bytes in the image. -/
  memSize  : Nat
  /-- `MEM_VARIANT`. -/
  variant  : MemVariant
  /-- `COPROC`. -/
  coproc   : Coproc
  /-- `COND_1111`. -/
  cond1111 : Cond1111
  /-- `VFP_DT_MODES`. -/
  dtModes  : DtModes
  /-- `OFF_*`. -/
  off      : Offsets
  /-- `FPSID_VALUE`: what the read-only FPSID register holds (10_state.md R34). -/
  fpsid    : Word
deriving DecidableEq, Repr

/-- `SWI_MAP`: the interrupt a comment field maps to; total, otherwise free (47_system.md R320).
DEDUCED, safe (log entry 8). -/
opaque Config.swiMap : BitVec 24 → Interrupt

/-! The numbers behind `INT_CODE` and `FAULT_CODE`, otherwise free (60_exceptions.md R431). The spec has two
injections; Machine/HostPort.lean makes them of these. DEDUCED, safe (log entry 10). -/

opaque Config.intNumber : Interrupt → Int
opaque Config.faultNumber : FaultName → Int

/-! `FPNUM`, field by field (49_vfp.md R362): total functions on bit patterns, otherwise free. DEDUCED,
safe (log entry 7). -/

opaque Config.add32 : Word → Word → Word
opaque Config.sub32 : Word → Word → Word
opaque Config.mul32 : Word → Word → Word
opaque Config.div32 : Word → Word → Word
opaque Config.add64 : Dword → Dword → Dword
opaque Config.sub64 : Dword → Dword → Dword
opaque Config.mul64 : Dword → Dword → Dword
opaque Config.div64 : Dword → Dword → Dword
opaque Config.sqrt32 : Word → Word
opaque Config.sqrt64 : Dword → Dword
opaque Config.f32ToF64 : Word → Dword
opaque Config.f64ToF32 : Dword → Word
opaque Config.u32ToF32 : Word → Word
opaque Config.s32ToF32 : Word → Word
opaque Config.u32ToF64 : Word → Dword
opaque Config.s32ToF64 : Word → Dword
opaque Config.f32ToU32R : Word → Word
opaque Config.f32ToS32R : Word → Word
opaque Config.f64ToU32R : Dword → Word
opaque Config.f64ToS32R : Dword → Word

/-! The truncating conversions where 49_vfp.md R422 leaves them to `FPNUM` (NaNs and values out of range);
where that rule fixes them, Machine/FpBits.lean computes them and these are not read. DEDUCED, safe (log entry 9). -/

opaque Config.f32ToU32Z : Word → Word
opaque Config.f32ToS32Z : Word → Word
opaque Config.f64ToU32Z : Dword → Word
opaque Config.f64ToS32Z : Dword → Word

end Sys2Proof
end

