-- ==== Sys2Proof/Syntax.lean ====
section
/-!
DEFINITION. The instructions: one constructor per mnemonic of spec/opcode_table.json, its operand forms as
the operand types below. A row of the table that is a fault is a constructor too; it keeps the word's 28
bits below the condition, of which it reads only what its rule reads.
-/

namespace Sys2Proof

/-- The condition field (40_decode.md R123); `nv` is the encoding `1111` (R125). -/
inductive Cond where
  | eq | ne | cs | cc | mi | pl | vs | vc | hi | ls | ge | lt | gt | le | al | nv
deriving DecidableEq, Repr

/-- The shift types of operand2, in the order of their encoding (30_encoding.md R85). -/
inductive ShiftType where
  | lsl | lsr | asr | ror
deriving DecidableEq, Repr

/-- The operand2 of data processing (30_encoding.md R85). -/
inductive Operand2 where
  | imm    (rot : BitVec 4) (imm8 : BitVec 8)
  | regImm (rm : Reg) (ty : ShiftType) (amt : BitVec 5)
  | regReg (rm : Reg) (ty : ShiftType) (rs : Reg)
deriving DecidableEq, Repr

/-- The offset of a single data transfer (30_encoding.md R91). -/
inductive SdtOffset where
  | imm (imm12 : BitVec 12)
  | reg (rm : Reg) (ty : ShiftType) (amt : BitVec 5)
deriving DecidableEq, Repr

/-- The offset of a halfword or signed transfer (30_encoding.md R90); `imm8` is `immH :: immL` (R102). -/
inductive HdtOffset where
  | imm (imm8 : BitVec 8)
  | reg (rm : Reg)
deriving DecidableEq, Repr

/-- The bits `P` (pre-index), `U` (add) and `W` (write-back) of a transfer (30_encoding.md R90, R91). -/
structure Index where
  p : Bool
  u : Bool
  w : Bool
deriving DecidableEq, Repr

/-- The bits of a word below its condition field: what a fault row keeps. DESIGN CHOICE, safe (log entry 27). -/
abbrev Body := BitVec 28

/-- The instructions of spec/opcode_table.json, in the table's order. -/
inductive Instr where
  -- branch and exchange, swap, multiply (30_encoding.md R86 to R89)
  | bx    (c : Cond) (rm : Reg)
  | swp   (c : Cond) (rn rd rm : Reg)
  | swpb  (c : Cond) (rn rd rm : Reg)
  | mul   (c : Cond) (s : Bool) (rd rs rm : Reg)
  | mla   (c : Cond) (s : Bool) (rd rn rs rm : Reg)
  | umull (c : Cond) (s : Bool) (rdHi rdLo rs rm : Reg)
  | umlal (c : Cond) (s : Bool) (rdHi rdLo rs rm : Reg)
  | smull (c : Cond) (s : Bool) (rdHi rdLo rs rm : Reg)
  | smlal (c : Cond) (s : Bool) (rdHi rdLo rs rm : Reg)
  -- halfword and signed transfers (30_encoding.md R90)
  | unimplHalfwordSH00        (c : Cond) (b : Body)
  | unimplHalfwordSignedStore (c : Cond) (b : Body)
  | ldrh  (c : Cond) (ix : Index) (rn rd : Reg) (off : HdtOffset)
  | strh  (c : Cond) (ix : Index) (rn rd : Reg) (off : HdtOffset)
  | ldrsb (c : Cond) (ix : Index) (rn rd : Reg) (off : HdtOffset)
  | ldrsh (c : Cond) (ix : Index) (rn rd : Reg) (off : HdtOffset)
  -- data processing (30_encoding.md R84)
  | unimplPsrTransfer      (c : Cond) (b : Body)
  | unimplFlagsWithPcDest  (c : Cond) (b : Body)
  | unimplBadShiftEncoding (c : Cond) (b : Body)
  | and (c : Cond) (s : Bool) (rn rd : Reg) (o : Operand2)
  | eor (c : Cond) (s : Bool) (rn rd : Reg) (o : Operand2)
  | sub (c : Cond) (s : Bool) (rn rd : Reg) (o : Operand2)
  | rsb (c : Cond) (s : Bool) (rn rd : Reg) (o : Operand2)
  | add (c : Cond) (s : Bool) (rn rd : Reg) (o : Operand2)
  | adc (c : Cond) (s : Bool) (rn rd : Reg) (o : Operand2)
  | sbc (c : Cond) (s : Bool) (rn rd : Reg) (o : Operand2)
  | rsc (c : Cond) (s : Bool) (rn rd : Reg) (o : Operand2)
  | tst (c : Cond) (rn : Reg) (o : Operand2)
  | teq (c : Cond) (rn : Reg) (o : Operand2)
  | cmp (c : Cond) (rn : Reg) (o : Operand2)
  | cmn (c : Cond) (rn : Reg) (o : Operand2)
  | orr (c : Cond) (s : Bool) (rn rd : Reg) (o : Operand2)
  | mov (c : Cond) (s : Bool) (rd : Reg) (o : Operand2)
  | bic (c : Cond) (s : Bool) (rn rd : Reg) (o : Operand2)
  | mvn (c : Cond) (s : Bool) (rd : Reg) (o : Operand2)
  -- the undefined format (30_encoding.md R92): bits 24:5 and bits 3:0
  | und (c : Cond) (hi : BitVec 20) (lo : BitVec 4)
  -- single data transfer (30_encoding.md R91)
  | ldr  (c : Cond) (ix : Index) (rn rd : Reg) (off : SdtOffset)
  | str  (c : Cond) (ix : Index) (rn rd : Reg) (off : SdtOffset)
  | ldrb (c : Cond) (ix : Index) (rn rd : Reg) (off : SdtOffset)
  | strb (c : Cond) (ix : Index) (rn rd : Reg) (off : SdtOffset)
  -- block data transfer (30_encoding.md R93)
  | unimplBlockTransferSBit (c : Cond) (b : Body)
  | ldmia (c : Cond) (w : Bool) (rn : Reg) (list : BitVec 16)
  | ldmib (c : Cond) (w : Bool) (rn : Reg) (list : BitVec 16)
  | ldmda (c : Cond) (w : Bool) (rn : Reg) (list : BitVec 16)
  | ldmdb (c : Cond) (w : Bool) (rn : Reg) (list : BitVec 16)
  | stmia (c : Cond) (w : Bool) (rn : Reg) (list : BitVec 16)
  | stmib (c : Cond) (w : Bool) (rn : Reg) (list : BitVec 16)
  | stmda (c : Cond) (w : Bool) (rn : Reg) (list : BitVec 16)
  | stmdb (c : Cond) (w : Bool) (rn : Reg) (list : BitVec 16)
  -- branch (30_encoding.md R94)
  | b  (c : Cond) (imm24 : BitVec 24)
  | bl (c : Cond) (imm24 : BitVec 24)
  -- the coprocessor formats as the engine sees them (30_encoding.md R96 to R98)
  | ldc (c : Cond) (p u n w : Bool) (rn crd cpNum : BitVec 4) (offset8 : BitVec 8)
  | stc (c : Cond) (p u n w : Bool) (rn crd cpNum : BitVec 4) (offset8 : BitVec 8)
  | cdp (c : Cond) (cpOpc crn crd cpNum : BitVec 4) (cp : BitVec 3) (crm : BitVec 4)
  | mcr (c : Cond) (cpOpc : BitVec 3) (crn rd cpNum : BitVec 4) (cp : BitVec 3) (crm : BitVec 4)
  | mrc (c : Cond) (cpOpc : BitVec 3) (crn rd cpNum : BitVec 4) (cp : BitVec 3) (crm : BitVec 4)
  -- software interrupt (30_encoding.md R95)
  | swi (c : Cond) (comment : BitVec 24)
  -- VFP data operations (49_vfp.md R370)
  | fmacs  (c : Cond) (d n m : SReg)
  | fmacd  (c : Cond) (d n m : DReg)
  | fnmacs (c : Cond) (d n m : SReg)
  | fnmacd (c : Cond) (d n m : DReg)
  | fmscs  (c : Cond) (d n m : SReg)
  | fmscd  (c : Cond) (d n m : DReg)
  | fnmscs (c : Cond) (d n m : SReg)
  | fnmscd (c : Cond) (d n m : DReg)
  | fmuls  (c : Cond) (d n m : SReg)
  | fmuld  (c : Cond) (d n m : DReg)
  | fnmuls (c : Cond) (d n m : SReg)
  | fnmuld (c : Cond) (d n m : DReg)
  | fadds  (c : Cond) (d n m : SReg)
  | faddd  (c : Cond) (d n m : DReg)
  | fsubs  (c : Cond) (d n m : SReg)
  | fsubd  (c : Cond) (d n m : DReg)
  | fdivs  (c : Cond) (d n m : SReg)
  | fdivd  (c : Cond) (d n m : DReg)
  | unimplVfpOpcode (c : Cond) (b : Body)
  -- VFP extension operations (49_vfp.md R380)
  | fcpys   (c : Cond) (d m : SReg)
  | fcpyd   (c : Cond) (d m : DReg)
  | fabss   (c : Cond) (d m : SReg)
  | fabsd   (c : Cond) (d m : DReg)
  | fnegs   (c : Cond) (d m : SReg)
  | fnegd   (c : Cond) (d m : DReg)
  | fsqrts  (c : Cond) (d m : SReg)
  | fsqrtd  (c : Cond) (d m : DReg)
  | fcmps   (c : Cond) (d m : SReg)
  | fcmpd   (c : Cond) (d m : DReg)
  | fcmpes  (c : Cond) (d m : SReg)
  | fcmped  (c : Cond) (d m : DReg)
  | fcmpzs  (c : Cond) (d : SReg)
  | fcmpzd  (c : Cond) (d : DReg)
  | fcmpezs (c : Cond) (d : SReg)
  | fcmpezd (c : Cond) (d : DReg)
  | fcvtds  (c : Cond) (d : DReg) (m : SReg)
  | fcvtsd  (c : Cond) (d : SReg) (m : DReg)
  | fuitos  (c : Cond) (d m : SReg)
  | fuitod  (c : Cond) (d : DReg) (m : SReg)
  | fsitos  (c : Cond) (d m : SReg)
  | fsitod  (c : Cond) (d : DReg) (m : SReg)
  | ftouis  (c : Cond) (d m : SReg)
  | ftouid  (c : Cond) (d : SReg) (m : DReg)
  | ftouizs (c : Cond) (d m : SReg)
  | ftouizd (c : Cond) (d : SReg) (m : DReg)
  | ftosis  (c : Cond) (d m : SReg)
  | ftosid  (c : Cond) (d : SReg) (m : DReg)
  | ftosizs (c : Cond) (d m : SReg)
  | ftosizd (c : Cond) (d : SReg) (m : DReg)
  | unimplVfpRegister   (c : Cond) (b : Body)
  | unimplNoCoprocessor (c : Cond) (b : Body)
  -- VFP register transfers (49_vfp.md R417); `fn` of FMRX and FMXR names the system register (R404)
  | fmsr   (c : Cond) (n : SReg) (rd : Reg)
  | fmrs   (c : Cond) (n : SReg) (rd : Reg)
  | fmdlr  (c : Cond) (n : DReg) (rd : Reg)
  | fmrdl  (c : Cond) (n : DReg) (rd : Reg)
  | fmdhr  (c : Cond) (n : DReg) (rd : Reg)
  | fmrdh  (c : Cond) (n : DReg) (rd : Reg)
  | fmrx   (c : Cond) (fn : BitVec 4) (rd : Reg)
  | fmstat (c : Cond)
  | fmxr   (c : Cond) (fn : BitVec 4) (rd : Reg)
  -- VFP two-register transfers (49_vfp.md R406 to R409)
  | fmsrr (c : Cond) (rn rd : Reg) (m : SReg)
  | fmrrs (c : Cond) (rn rd : Reg) (m : SReg)
  | fmdrr (c : Cond) (rn rd : Reg) (m : DReg)
  | fmrrd (c : Cond) (rn rd : Reg) (m : DReg)
  -- VFP loads and stores (49_vfp.md R410 to R415, R419); `u` is the add bit
  | flds (c : Cond) (u : Bool) (rn : Reg) (d : SReg) (offset8 : BitVec 8)
  | fsts (c : Cond) (u : Bool) (rn : Reg) (d : SReg) (offset8 : BitVec 8)
  | fldd (c : Cond) (u : Bool) (rn : Reg) (d : DReg) (offset8 : BitVec 8)
  | fstd (c : Cond) (u : Bool) (rn : Reg) (d : DReg) (offset8 : BitVec 8)
  | unimplVfpAddressingMode (c : Cond) (b : Body)
  | unimplVfpRegisterList   (c : Cond) (b : Body)
  -- single forms: `n` is the count `offset8`; double forms: `n` is `offset8 / 2`
  | fldmias (c : Cond) (w : Bool) (rn : Reg) (f : SReg) (n : BitVec 8)
  | fldmiad (c : Cond) (w : Bool) (rn : Reg) (f : DReg) (n : BitVec 7)
  | fstmias (c : Cond) (w : Bool) (rn : Reg) (f : SReg) (n : BitVec 8)
  | fstmiad (c : Cond) (w : Bool) (rn : Reg) (f : DReg) (n : BitVec 7)
  | fldmdbs (c : Cond) (rn : Reg) (f : SReg) (n : BitVec 8)
  | fldmdbd (c : Cond) (rn : Reg) (f : DReg) (n : BitVec 7)
  | fstmdbs (c : Cond) (rn : Reg) (f : SReg) (n : BitVec 8)
  | fstmdbd (c : Cond) (rn : Reg) (f : DReg) (n : BitVec 7)
deriving DecidableEq, Repr

end Sys2Proof
end

