-- ==== Sys2Proof/WellFormed.lean ====
section
/-!
DEFINITION. Which instructions some word encodes. The constructors with operand fields are well formed but
for the few operand values whose words belong to another row of spec/opcode_table.json; a constructor that
stands for a fault row says here which 28-bit bodies reach that row (the row's mask and match, less the
rows before it).
-/

namespace Sys2Proof

/-- The row test of spec/opcode_table.json on the 28 bits below the condition. -/
def Body.hits (mask pattern b : Body) : Bool := b &&& mask == pattern

/-- `n` bits of a body from bit `lo`. -/
def Body.field (b : Body) (lo n : Nat) : BitVec n := b.extractLsb' lo n

/-! The formats of 30_encoding.md R82 that share bits 27:26 = `00` with data processing. -/

def Body.isBx (b : Body) : Bool := Body.hits 0xFFFFFF0 0x12FFF10 b
def Body.isSwp (b : Body) : Bool := Body.hits 0xFB00FF0 0x1000090 b
def Body.isMul (b : Body) : Bool := Body.hits 0xFC000F0 0x0000090 b
def Body.isMull (b : Body) : Bool := Body.hits 0xF8000F0 0x0800090 b
def Body.isHdtReg (b : Body) : Bool := Body.hits 0xE400F90 0x0000090 b
def Body.isHdtImm (b : Body) : Bool := Body.hits 0xE400090 0x0400090 b

/-- Format `DP`: bits 27:26 = `00` and none of the formats tested before it (30_encoding.md R82). -/
def Body.isDp (b : Body) : Bool :=
  Body.hits 0xC000000 0x0000000 b && !(Body.isBx b || Body.isSwp b || Body.isMul b || Body.isMull b
    || Body.isHdtReg b || Body.isHdtImm b)

/-- Halfword format with `S:H = 00` (30_encoding.md R105). -/
def Body.isHalfwordSH00 (b : Body) : Bool :=
  (Body.hits 0xE400FF0 0x0000090 b || Body.hits 0xE4000F0 0x0400090 b)
    && !(Body.isSwp b || Body.isMul b || Body.isMull b)

/-- Halfword format with `L = 0`, `S = 1` (30_encoding.md R105). -/
def Body.isHalfwordSignedStore (b : Body) : Bool :=
  Body.hits 0xE500FD0 0x00000D0 b || Body.hits 0xE5000D0 0x04000D0 b

/-- Opcodes 8 to 11 with `S = 0` (42_data_processing.md R185). -/
def Body.isPsrTransfer (b : Body) : Bool := Body.isDp b && Body.hits 0x1900000 0x1000000 b

/-- `S = 1` with `Rd = 15` (42_data_processing.md R184). -/
def Body.isFlagsWithPcDest (b : Body) : Bool := Body.isDp b && Body.hits 0x010F000 0x010F000 b

/-- `I = 0`, bit 4 = 1, bit 7 = 1 and neither fault before it (41_shifter.md R151). -/
def Body.isBadShiftEncoding (b : Body) : Bool :=
  Body.isDp b && Body.hits 0x2000090 0x0000090 b && !(Body.isPsrTransfer b || Body.isFlagsWithPcDest b)

/-- Block transfer with the S bit (45_block_transfer.md R284). -/
def Body.isBlockTransferSBit (b : Body) : Bool := Body.hits 0xE400000 0x8400000 b

/-! The coprocessor formats (30_encoding.md R96 to R98) and the VFP's two numbers (49_vfp.md R364). -/

def Body.isCdt (b : Body) : Bool := Body.hits 0xE000000 0xC000000 b
def Body.isCdo (b : Body) : Bool := Body.hits 0xF000010 0xE000000 b
def Body.isCrt (b : Body) : Bool := Body.hits 0xF000010 0xE000010 b
def Body.isSingle (b : Body) : Bool := Body.field b 8 4 == 10
def Body.isDouble (b : Body) : Bool := Body.field b 8 4 == 11

/-- `pqrs`, the primary opcode of a VFP data operation (49_vfp.md R370). -/
def Body.pqrs (b : Body) : BitVec 4 :=
  Body.field b 23 1 ++ Body.field b 20 2 ++ Body.field b 6 1

/-- `Fn :: Nx`, the extension opcode (49_vfp.md R380). -/
def Body.ext (b : Body) : BitVec 5 := Body.field b 16 4 ++ Body.field b 7 1

/-- A VFP data operation whose opcode has no operation (49_vfp.md R370, R380). -/
def Body.isBadDataOpcode (b : Body) : Bool :=
  (9 ≤ (Body.pqrs b).toNat && (Body.pqrs b).toNat ≤ 14)
    || (Body.pqrs b == 15 && !([0, 1, 2, 3, 8, 9, 10, 11, 15, 16, 17, 24, 25, 26, 27].contains (Body.ext b).toNat))

/-- A VFP register transfer with no meaning for (`cp_num`, `opc`) (49_vfp.md R417). -/
def Body.isBadTransferOpcode (b : Body) : Bool :=
  (Body.isSingle b && !([0, 7].contains (Body.field b 21 3).toNat))
    || (Body.isDouble b && !([0, 1].contains (Body.field b 21 3).toNat))

/-- The words that reach `Unimplemented(VfpOpcode)` (49_vfp.md R416). -/
def Body.isVfpOpcode (b : Body) : Bool :=
  (Body.isSingle b || Body.isDouble b)
    && ((Body.isCdo b && Body.isBadDataOpcode b) || (Body.isCrt b && Body.isBadTransferOpcode b))

/-- A VFP data operation with a double operand whose extension bit (`Dx` 22, `Nx` 7, `Mx` 5) is 1: the
double operands are all three for `pqrs ≤ 8`, and for the extension those of rules R381 to R395. -/
def Body.isBadDoubleOperand (b : Body) : Bool :=
  let dx := b.getLsbD 22
  let nx := b.getLsbD 7
  let mx := b.getLsbD 5
  let e := (Body.ext b).toNat
  if Body.pqrs b == 15 then
    if e ≤ 9 then Body.isDouble b && (dx || mx)                  -- copy to compare: Dd, Dm
    else if e ≤ 11 then Body.isDouble b && dx                    -- compare with zero: Dd
    else if e == 15 then (if Body.isDouble b then mx else dx)    -- FCVTSD Sd, Dm; FCVTDS Dd, Sm
    else if e ≤ 17 then Body.isDouble b && dx                    -- FUITOD, FSITOD Dd, Sm
    else Body.isDouble b && mx                                   -- FTOUID to FTOSIZD Sd, Dm
  else Body.isDouble b && (dx || nx || mx)

/-- (`P`, `U`, `W`) of a VFP data transfer as a mode (49_vfp.md R418); `none` for the other three. -/
def Body.mode (b : Body) : Option DtMode :=
  match b.getLsbD 24, b.getLsbD 23, b.getLsbD 21 with
  | true,  _,     false => some .offset
  | false, true,  false => some .ia
  | false, true,  true  => some .iaw
  | true,  false, true  => some .dbw
  | _,     _,     _     => none

/-- The two-register layout (49_vfp.md R406): bits 27:21 = `1100010`, bits 7:6 = `00`, bit 4 = 1. -/
def Body.isTwoRegister (b : Body) : Bool := Body.hits 0xFE000D0 0xC400010 b

/-- The words that reach `Unimplemented(VfpRegister)` (49_vfp.md R416). -/
def Body.isVfpRegister (b : Body) : Bool :=
  (Body.isCdo b && (Body.isSingle b || Body.isDouble b) && !Body.isBadDataOpcode b && Body.isBadDoubleOperand b)
    || (Body.isCrt b && Body.isDouble b && !Body.isBadTransferOpcode b && b.getLsbD 7)
    || (Body.isTwoRegister b && Body.isSingle b && Body.field b 0 4 == 15 && b.getLsbD 5)
    || (Body.isTwoRegister b && Body.isDouble b && b.getLsbD 5)
    || (Body.isCdt b && Body.isDouble b && (Body.mode b).isSome && b.getLsbD 22)

/-- The words that reach `Unimplemented(VfpAddressingMode)` whatever `VFP_DT_MODES` is (49_vfp.md R416). -/
def Body.isVfpAddressingMode (b : Body) : Bool :=
  Body.isCdt b && (Body.isSingle b || Body.isDouble b)
    && (((Body.mode b).isNone && !Body.isTwoRegister b)
      || (Body.isDouble b && !b.getLsbD 22 && b.getLsbD 0
          && ((Body.mode b).isSome && Body.mode b != some .offset)))

/-- The words that reach `Unimplemented(VfpRegisterList)` by an empty list (49_vfp.md R419). -/
def Body.isVfpRegisterList (b : Body) : Bool :=
  Body.isCdt b && (Body.isSingle b || (Body.isDouble b && !b.getLsbD 22))
    && ((Body.mode b).isSome && Body.mode b != some .offset) && Body.field b 0 8 == 0

/-- The words that reach `Unimplemented(NoCoprocessor)` at the VFP level (49_vfp.md R361). -/
def Body.isNoCoprocessor (b : Body) : Bool :=
  (Body.isCdt b || Body.isCdo b || Body.isCrt b) && !(Body.isSingle b || Body.isDouble b)

/-- Whether some word encodes the instruction. -/
def Instr.wf : Instr → Bool
  | .unimplHalfwordSH00 _ bd => Body.isHalfwordSH00 bd
  | .unimplHalfwordSignedStore _ bd => Body.isHalfwordSignedStore bd
  | .unimplPsrTransfer _ bd => Body.isPsrTransfer bd
  | .unimplFlagsWithPcDest _ bd => Body.isFlagsWithPcDest bd
  | .unimplBadShiftEncoding _ bd => Body.isBadShiftEncoding bd
  | .and _ s _ rd _ | .eor _ s _ rd _ | .sub _ s _ rd _ | .rsb _ s _ rd _ | .add _ s _ rd _
  | .adc _ s _ rd _ | .sbc _ s _ rd _ | .rsc _ s _ rd _ | .orr _ s _ rd _ | .bic _ s _ rd _
  | .mov _ s rd _ | .mvn _ s rd _ => !(s && rd == 15)
  | .unimplBlockTransferSBit _ bd => Body.isBlockTransferSBit bd
  | .unimplVfpOpcode _ bd => Body.isVfpOpcode bd
  | .unimplVfpRegister _ bd => Body.isVfpRegister bd
  | .unimplNoCoprocessor _ bd => Body.isNoCoprocessor bd
  | .fmrx _ fn rd => !(fn == 1 && rd == 15)
  | .fmsrr _ _ _ m | .fmrrs _ _ _ m => m != 31
  | .unimplVfpAddressingMode _ bd => Body.isVfpAddressingMode bd
  | .unimplVfpRegisterList _ bd => Body.isVfpRegisterList bd
  | .fldmias _ _ _ _ n | .fstmias _ _ _ _ n | .fldmdbs _ _ _ n | .fstmdbs _ _ _ n => n != 0
  | .fldmiad _ _ _ _ n | .fstmiad _ _ _ _ n | .fldmdbd _ _ _ n | .fstmdbd _ _ _ n => n != 0
  | _ => true

/-- The two lists of spec/opcode_table.json (30_encoding.md R110). -/
inductive Level where
  | engine | vfp
deriving DecidableEq, Repr

/-- The list a constructor's rows stand in: the VFP operations, transfers and faults are level `vfp`. -/
def Instr.level : Instr → Level
  | .fmacs .. | .fmacd .. | .fnmacs .. | .fnmacd .. | .fmscs .. | .fmscd .. | .fnmscs .. | .fnmscd ..
  | .fmuls .. | .fmuld .. | .fnmuls .. | .fnmuld .. | .fadds .. | .faddd .. | .fsubs .. | .fsubd ..
  | .fdivs .. | .fdivd .. | .unimplVfpOpcode .. | .fcpys .. | .fcpyd .. | .fabss .. | .fabsd ..
  | .fnegs .. | .fnegd .. | .fsqrts .. | .fsqrtd .. | .fcmps .. | .fcmpd .. | .fcmpes .. | .fcmped ..
  | .fcmpzs .. | .fcmpzd .. | .fcmpezs .. | .fcmpezd .. | .fcvtds .. | .fcvtsd .. | .fuitos ..
  | .fuitod .. | .fsitos .. | .fsitod .. | .ftouis .. | .ftouid .. | .ftouizs .. | .ftouizd ..
  | .ftosis .. | .ftosid .. | .ftosizs .. | .ftosizd .. | .unimplVfpRegister .. | .unimplNoCoprocessor ..
  | .fmsr .. | .fmrs .. | .fmdlr .. | .fmrdl .. | .fmdhr .. | .fmrdh .. | .fmrx .. | .fmstat ..
  | .fmxr .. | .fmsrr .. | .fmrrs .. | .fmdrr .. | .fmrrd .. | .flds .. | .fsts .. | .fldd .. | .fstd ..
  | .unimplVfpAddressingMode .. | .unimplVfpRegisterList .. | .fldmias .. | .fldmiad .. | .fstmias ..
  | .fstmiad .. | .fldmdbs .. | .fldmdbd .. | .fstmdbs .. | .fstmdbd .. => .vfp
  | _ => .engine

end Sys2Proof
end

