-- ==== Sys2Proof/Decode.lean ====
section
/-!
DEFINITION. From the bits of a word to the instruction it stands for: the classifier of 30_encoding.md R82,
the layouts of its 15 formats (R84 to R98), the VFP's sub-layouts (49_vfp.md R361 to R418); and, after it,
the encoder written from the same layouts.

Decoding has the two levels of 30_encoding.md R110. `decodeEngine` is the engine's list: a coprocessor word
is LDC, STC, CDP, MCR or MRC. `decodeVfp` is the VFP unit's list, over the words of the coprocessor formats.
`decodeWord`, what the step uses, takes the engine's row, refined by the unit's row where `cp_num` is the
unit's 10 or 11; a word for another coprocessor stays the engine's generic instruction (log entry 4).
-/

namespace Sys2Proof

/-! ## Fields -/

/-- `w[lo+n-1 : lo]` (00_scope.md R5). -/
def bits (w : Word) (lo n : Nat) : BitVec n := w.extractLsb' lo n

/-- `w[i]` (00_scope.md R5). -/
def bit (w : Word) (i : Nat) : Bool := w.getLsbD i

/-- The bits below the condition field. -/
def bodyOf (w : Word) : Body := bits w 0 28

/-- The condition field's numbering (40_decode.md R123). -/
def Cond.ofCode (v : BitVec 4) : Cond :=
  match v.toNat with
  | 0 => .eq | 1 => .ne | 2 => .cs | 3 => .cc | 4 => .mi | 5 => .pl | 6 => .vs | 7 => .vc
  | 8 => .hi | 9 => .ls | 10 => .ge | 11 => .lt | 12 => .gt | 13 => .le | 14 => .al | _ => .nv

/-- The shift types' numbering (30_encoding.md R85). -/
def ShiftType.ofCode (v : BitVec 2) : ShiftType :=
  match v.toNat with
  | 0 => .lsl | 1 => .lsr | 2 => .asr | _ => .ror

/-- Bits 31:28 of every word (30_encoding.md R81). -/
def condOf (w : Word) : Cond := Cond.ofCode (bits w 28 4)

/-! ## The classifier -/

/-- The 15 formats (30_encoding.md R82). -/
inductive Format where
  | bx | swp | mul | mull | hdtReg | hdtImm | dp | und | sdt | bdt | b | cdt | cdo | crt | swi
deriving DecidableEq, Repr

/-- One row of the classifier's table: `(w & mask) = pattern` selects the format. -/
structure FormatRow where
  format  : Format
  mask    : Word
  pattern : Word
deriving DecidableEq, Repr

/-- The table of 30_encoding.md R82, in its order. UNVERIFIED, unsafe (log entry 14): the spec supplies the
encodings from general knowledge. -/
def formatTable : List FormatRow :=
  [⟨.bx,     0x0FFFFFF0, 0x012FFF10⟩,
   ⟨.swp,    0x0FB00FF0, 0x01000090⟩,
   ⟨.mul,    0x0FC000F0, 0x00000090⟩,
   ⟨.mull,   0x0F8000F0, 0x00800090⟩,
   ⟨.hdtReg, 0x0E400F90, 0x00000090⟩,
   ⟨.hdtImm, 0x0E400090, 0x00400090⟩,
   ⟨.dp,     0x0C000000, 0x00000000⟩,
   ⟨.und,    0x0E000010, 0x06000010⟩,
   ⟨.sdt,    0x0C000000, 0x04000000⟩,
   ⟨.bdt,    0x0E000000, 0x08000000⟩,
   ⟨.b,      0x0E000000, 0x0A000000⟩,
   ⟨.cdt,    0x0E000000, 0x0C000000⟩,
   ⟨.cdo,    0x0F000010, 0x0E000000⟩,
   ⟨.crt,    0x0F000010, 0x0E000010⟩,
   ⟨.swi,    0x0F000000, 0x0F000000⟩]

/-- The rows of a table a word satisfies, in order. -/
def FormatRow.hits (r : FormatRow) (w : Word) : Bool := w &&& r.mask == r.pattern

/-- The format of a word: the first entry of the table that matches (40_decode.md R122). `none` is the
no-match arm of 30_encoding.md R83, which no word reaches. -/
def classify (w : Word) : Option Format := (formatTable.find? (·.hits w)).map (·.format)

/-! ## The engine's formats -/

/-- The three register-shift and immediate forms of operand2 (30_encoding.md R85). A register amount with
bit 7 set has been turned away before (R105). -/
def operand2Of (w : Word) : Operand2 :=
  if bit w 25 then .imm (bits w 8 4) (bits w 0 8)
  else if bit w 4 then .regReg (bits w 0 4) (ShiftType.ofCode (bits w 5 2)) (bits w 8 4)
  else .regImm (bits w 0 4) (ShiftType.ofCode (bits w 5 2)) (bits w 7 5)

/-- `P`, `U`, `W` (30_encoding.md R90, R91). -/
def indexOf (w : Word) : Index := ⟨bit w 24, bit w 23, bit w 21⟩

/-- Format `DP` (30_encoding.md R84); the fault checks in the order of 42_data_processing.md R180. -/
def decodeDp (w : Word) : Instr :=
  let c := condOf w
  let s := bit w 20
  let rn := bits w 16 4
  let rd := bits w 12 4
  let op := (bits w 21 4).toNat
  if 8 ≤ op && op ≤ 11 && !s then .unimplPsrTransfer c (bodyOf w)
  else if s && rd == 15 then .unimplFlagsWithPcDest c (bodyOf w)
  else if !(bit w 25) && bit w 4 && bit w 7 then .unimplBadShiftEncoding c (bodyOf w)
  else
    let o := operand2Of w
    match op with
    | 0 => .and c s rn rd o
    | 1 => .eor c s rn rd o
    | 2 => .sub c s rn rd o
    | 3 => .rsb c s rn rd o
    | 4 => .add c s rn rd o
    | 5 => .adc c s rn rd o
    | 6 => .sbc c s rn rd o
    | 7 => .rsc c s rn rd o
    | 8 => .tst c rn o
    | 9 => .teq c rn o
    | 10 => .cmp c rn o
    | 11 => .cmn c rn o
    | 12 => .orr c s rn rd o
    | 13 => .mov c s rd o
    | 14 => .bic c s rn rd o
    | _ => .mvn c s rd o

/-- Formats `MUL` and `MULL` (30_encoding.md R86, R87). -/
def decodeMul (w : Word) : Instr :=
  let c := condOf w
  let s := bit w 20
  let hi := bits w 16 4
  let lo := bits w 12 4
  let rs := bits w 8 4
  let rm := bits w 0 4
  if bit w 23 then
    match bit w 22, bit w 21 with
    | false, false => .umull c s hi lo rs rm
    | false, true  => .umlal c s hi lo rs rm
    | true,  false => .smull c s hi lo rs rm
    | true,  true  => .smlal c s hi lo rs rm
  else if bit w 21 then .mla c s hi lo rs rm
  else .mul c s hi rs rm

/-- Format `SWP` (30_encoding.md R88). -/
def decodeSwp (w : Word) : Instr :=
  if bit w 22 then .swpb (condOf w) (bits w 16 4) (bits w 12 4) (bits w 0 4)
  else .swp (condOf w) (bits w 16 4) (bits w 12 4) (bits w 0 4)

/-- Formats `HDT_REG` and `HDT_IMM` (30_encoding.md R90, R105). -/
def decodeHdt (w : Word) (off : HdtOffset) : Instr :=
  let c := condOf w
  let ix := indexOf w
  let rn := bits w 16 4
  let rd := bits w 12 4
  match bit w 20, bit w 6, bit w 5 with
  | _,     false, false => .unimplHalfwordSH00 c (bodyOf w)
  | false, true,  _     => .unimplHalfwordSignedStore c (bodyOf w)
  | true,  false, true  => .ldrh c ix rn rd off
  | false, false, true  => .strh c ix rn rd off
  | true,  true,  false => .ldrsb c ix rn rd off
  | true,  true,  true  => .ldrsh c ix rn rd off

/-- Format `SDT` (30_encoding.md R91); with `I = 1` bit 4 is 0 in every word that reaches it. -/
def decodeSdt (w : Word) : Instr :=
  let c := condOf w
  let ix := indexOf w
  let rn := bits w 16 4
  let rd := bits w 12 4
  let off : SdtOffset :=
    if bit w 25 then .reg (bits w 0 4) (ShiftType.ofCode (bits w 5 2)) (bits w 7 5)
    else .imm (bits w 0 12)
  match bit w 20, bit w 22 with
  | true,  false => .ldr c ix rn rd off
  | true,  true  => .ldrb c ix rn rd off
  | false, false => .str c ix rn rd off
  | false, true  => .strb c ix rn rd off

/-- Format `BDT` (30_encoding.md R93). -/
def decodeBdt (w : Word) : Instr :=
  let c := condOf w
  let wb := bit w 21
  let rn := bits w 16 4
  let list := bits w 0 16
  if bit w 22 then .unimplBlockTransferSBit c (bodyOf w)
  else
    match bit w 20, bit w 24, bit w 23 with
    | true,  false, true  => .ldmia c wb rn list
    | true,  true,  true  => .ldmib c wb rn list
    | true,  false, false => .ldmda c wb rn list
    | true,  true,  false => .ldmdb c wb rn list
    | false, false, true  => .stmia c wb rn list
    | false, true,  true  => .stmib c wb rn list
    | false, false, false => .stmda c wb rn list
    | false, true,  false => .stmdb c wb rn list

/-- Format `B` (30_encoding.md R94). -/
def decodeB (w : Word) : Instr :=
  if bit w 24 then .bl (condOf w) (bits w 0 24) else .b (condOf w) (bits w 0 24)

/-- Format `CDT` as the engine names it (30_encoding.md R96). -/
def decodeCdt (w : Word) : Instr :=
  if bit w 20 then
    .ldc (condOf w) (bit w 24) (bit w 23) (bit w 22) (bit w 21) (bits w 16 4) (bits w 12 4) (bits w 8 4) (bits w 0 8)
  else
    .stc (condOf w) (bit w 24) (bit w 23) (bit w 22) (bit w 21) (bits w 16 4) (bits w 12 4) (bits w 8 4) (bits w 0 8)

/-- Format `CDO` as the engine names it (30_encoding.md R97). -/
def decodeCdo (w : Word) : Instr :=
  .cdp (condOf w) (bits w 20 4) (bits w 16 4) (bits w 12 4) (bits w 8 4) (bits w 5 3) (bits w 0 4)

/-- Format `CRT` as the engine names it (30_encoding.md R98). -/
def decodeCrt (w : Word) : Instr :=
  if bit w 20 then
    .mrc (condOf w) (bits w 21 3) (bits w 16 4) (bits w 12 4) (bits w 8 4) (bits w 5 3) (bits w 0 4)
  else
    .mcr (condOf w) (bits w 21 3) (bits w 16 4) (bits w 12 4) (bits w 8 4) (bits w 5 3) (bits w 0 4)

/-- Why bytes are no instruction. -/
inductive DecodeError where
  | truncated  -- fewer than the four bytes of a word
  | noFormat   -- the classifier's final arm (30_encoding.md R83); no word reaches it
deriving DecidableEq, Repr

/-- The engine's row of a word (30_encoding.md R110, level `engine`). -/
def decodeEngine (w : Word) : Except DecodeError Instr :=
  match classify w with
  | some .bx     => .ok (.bx (condOf w) (bits w 0 4))
  | some .swp    => .ok (decodeSwp w)
  | some .mul    => .ok (decodeMul w)
  | some .mull   => .ok (decodeMul w)
  | some .hdtReg => .ok (decodeHdt w (.reg (bits w 0 4)))
  | some .hdtImm => .ok (decodeHdt w (.imm (bits w 8 4 ++ bits w 0 4)))
  | some .dp     => .ok (decodeDp w)
  | some .und    => .ok (.und (condOf w) (bits w 5 20) (bits w 0 4))
  | some .sdt    => .ok (decodeSdt w)
  | some .bdt    => .ok (decodeBdt w)
  | some .b      => .ok (decodeB w)
  | some .cdt    => .ok (decodeCdt w)
  | some .cdo    => .ok (decodeCdo w)
  | some .crt    => .ok (decodeCrt w)
  | some .swi    => .ok (.swi (condOf w) (bits w 0 24))
  | none         => .error .noFormat

/-! ## The VFP unit's sub-layouts -/

/-- A single register number: the extension bit is the low bit of the five (49_vfp.md R364). -/
def sregAt (w : Word) (lo x : Nat) : SReg := bits w lo 4 ++ bits w x 1

/-- `Fd`, `Dx` as a single register. -/
def sd (w : Word) : SReg := sregAt w 12 22
/-- `Fn`, `Nx` as a single register. -/
def sn (w : Word) : SReg := sregAt w 16 7
/-- `Fm`, `Mx` as a single register. -/
def sm (w : Word) : SReg := sregAt w 0 5
/-- `Fd` as a double register. -/
def dd (w : Word) : DReg := bits w 12 4
/-- `Fn` as a double register. -/
def dn (w : Word) : DReg := bits w 16 4
/-- `Fm` as a double register. -/
def dm (w : Word) : DReg := bits w 0 4

/-- `cp_num` (30_encoding.md R96 to R98). -/
def cpNumOf (w : Word) : BitVec 4 := bits w 8 4

/-- The opcode `pqrs` (49_vfp.md R370). -/
def pqrsOf (w : Word) : BitVec 4 := bits w 23 1 ++ bits w 20 2 ++ bits w 6 1

/-- The extension opcode `Fn :: Nx` (49_vfp.md R380). -/
def extOf (w : Word) : BitVec 5 := bits w 16 4 ++ bits w 7 1

/-- The extension operations in single precision, `cp_num = 10` (49_vfp.md R380 to R395). -/
def decodeExtSingle (w : Word) : Instr :=
  let c := condOf w
  match (extOf w).toNat with
  | 0  => .fcpys c (sd w) (sm w)
  | 1  => .fabss c (sd w) (sm w)
  | 2  => .fnegs c (sd w) (sm w)
  | 3  => .fsqrts c (sd w) (sm w)
  | 8  => .fcmps c (sd w) (sm w)
  | 9  => .fcmpes c (sd w) (sm w)
  | 10 => .fcmpzs c (sd w)
  | 11 => .fcmpezs c (sd w)
  | 15 => if bit w 22 then .unimplVfpRegister c (bodyOf w) else .fcvtds c (dd w) (sm w)
  | 16 => .fuitos c (sd w) (sm w)
  | 17 => .fsitos c (sd w) (sm w)
  | 24 => .ftouis c (sd w) (sm w)
  | 25 => .ftouizs c (sd w) (sm w)
  | 26 => .ftosis c (sd w) (sm w)
  | 27 => .ftosizs c (sd w) (sm w)
  | _  => .unimplVfpOpcode c (bodyOf w)

/-- The extension operations in double precision, `cp_num = 11`; a double operand with its extension bit
set is turned away (49_vfp.md R364, R380 to R395). -/
def decodeExtDouble (w : Word) : Instr :=
  let c := condOf w
  let dx := bit w 22
  let mx := bit w 5
  let bad := Instr.unimplVfpRegister c (bodyOf w)
  match (extOf w).toNat with
  | 0  => if dx || mx then bad else .fcpyd c (dd w) (dm w)
  | 1  => if dx || mx then bad else .fabsd c (dd w) (dm w)
  | 2  => if dx || mx then bad else .fnegd c (dd w) (dm w)
  | 3  => if dx || mx then bad else .fsqrtd c (dd w) (dm w)
  | 8  => if dx || mx then bad else .fcmpd c (dd w) (dm w)
  | 9  => if dx || mx then bad else .fcmped c (dd w) (dm w)
  | 10 => if dx then bad else .fcmpzd c (dd w)
  | 11 => if dx then bad else .fcmpezd c (dd w)
  | 15 => if mx then bad else .fcvtsd c (sd w) (dm w)
  | 16 => if dx then bad else .fuitod c (dd w) (sm w)
  | 17 => if dx then bad else .fsitod c (dd w) (sm w)
  | 24 => if mx then bad else .ftouid c (sd w) (dm w)
  | 25 => if mx then bad else .ftouizd c (sd w) (dm w)
  | 26 => if mx then bad else .ftosid c (sd w) (dm w)
  | 27 => if mx then bad else .ftosizd c (sd w) (dm w)
  | _  => .unimplVfpOpcode c (bodyOf w)

/-- `data_operation` (49_vfp.md R370), `cp_num` being 10 or 11. -/
def decodeDataOperation (w : Word) : Instr :=
  let c := condOf w
  let dp := cpNumOf w == 11
  let bad := Instr.unimplVfpRegister c (bodyOf w)
  let x := bit w 22 || bit w 7 || bit w 5
  match (pqrsOf w).toNat with
  | 0 => if dp then (if x then bad else .fmacd c (dd w) (dn w) (dm w)) else .fmacs c (sd w) (sn w) (sm w)
  | 1 => if dp then (if x then bad else .fnmacd c (dd w) (dn w) (dm w)) else .fnmacs c (sd w) (sn w) (sm w)
  | 2 => if dp then (if x then bad else .fmscd c (dd w) (dn w) (dm w)) else .fmscs c (sd w) (sn w) (sm w)
  | 3 => if dp then (if x then bad else .fnmscd c (dd w) (dn w) (dm w)) else .fnmscs c (sd w) (sn w) (sm w)
  | 4 => if dp then (if x then bad else .fmuld c (dd w) (dn w) (dm w)) else .fmuls c (sd w) (sn w) (sm w)
  | 5 => if dp then (if x then bad else .fnmuld c (dd w) (dn w) (dm w)) else .fnmuls c (sd w) (sn w) (sm w)
  | 6 => if dp then (if x then bad else .faddd c (dd w) (dn w) (dm w)) else .fadds c (sd w) (sn w) (sm w)
  | 7 => if dp then (if x then bad else .fsubd c (dd w) (dn w) (dm w)) else .fsubs c (sd w) (sn w) (sm w)
  | 8 => if dp then (if x then bad else .fdivd c (dd w) (dn w) (dm w)) else .fdivs c (sd w) (sn w) (sm w)
  | 15 => if dp then decodeExtDouble w else decodeExtSingle w
  | _ => .unimplVfpOpcode c (bodyOf w)

/-- `register_transfer` (49_vfp.md R417), `cp_num` being 10 or 11. -/
def decodeRegisterTransfer (w : Word) : Instr :=
  let c := condOf w
  let rd := bits w 12 4
  let fn := bits w 16 4
  let bad := Instr.unimplVfpRegister c (bodyOf w)
  match cpNumOf w == 11, (bits w 21 3).toNat, bit w 20 with
  | false, 0, false => .fmsr c (sn w) rd
  | false, 0, true  => .fmrs c (sn w) rd
  | true,  0, false => if bit w 7 then bad else .fmdlr c (dn w) rd
  | true,  0, true  => if bit w 7 then bad else .fmrdl c (dn w) rd
  | true,  1, false => if bit w 7 then bad else .fmdhr c (dn w) rd
  | true,  1, true  => if bit w 7 then bad else .fmrdh c (dn w) rd
  | false, 7, false => .fmxr c fn rd
  | false, 7, true  => if fn == 1 && rd == 15 then .fmstat c else .fmrx c fn rd
  | _,     _, _     => .unimplVfpOpcode c (bodyOf w)

/-- The two-register words of `data_transfer` (49_vfp.md R406 to R409). -/
def decodeTwoRegister (w : Word) : Instr :=
  let c := condOf w
  let rn := bits w 16 4
  let rd := bits w 12 4
  if bits w 6 2 != 0 || !(bit w 4) then .unimplVfpAddressingMode c (bodyOf w)
  else if cpNumOf w == 11 then
    if bit w 5 then .unimplVfpRegister c (bodyOf w)
    else if bit w 20 then .fmrrd c rn rd (dm w) else .fmdrr c rn rd (dm w)
  else if sm w == 31 then .unimplVfpRegister c (bodyOf w)
  else if bit w 20 then .fmrrs c rn rd (sm w) else .fmsrr c rn rd (sm w)

/-- Mode Offset of `data_transfer` (49_vfp.md R410 to R413). -/
def decodeOffsetTransfer (w : Word) : Instr :=
  let c := condOf w
  let rn := bits w 16 4
  let off := bits w 0 8
  let u := bit w 23
  if cpNumOf w == 11 then
    if bit w 22 then .unimplVfpRegister c (bodyOf w)
    else if bit w 20 then .fldd c u rn (dd w) off else .fstd c u rn (dd w) off
  else if bit w 20 then .flds c u rn (sd w) off else .fsts c u rn (sd w) off

/-- Modes IA, IAW (`before = false`) and DBW (`before = true`) of `data_transfer` (49_vfp.md R414 to R419):
the checks on the word alone, in the order of the table's rows. FLDMX and FSTMX fault: DEDUCED, safe (log
entry 24). -/
def decodeMultipleTransfer (w : Word) (before : Bool) : Instr :=
  let c := condOf w
  let wb := bit w 21
  let rn := bits w 16 4
  let off := bits w 0 8
  if cpNumOf w == 11 then
    if bit w 22 then .unimplVfpRegister c (bodyOf w)
    else if bit w 0 then .unimplVfpAddressingMode c (bodyOf w)
    else if off == 0 then .unimplVfpRegisterList c (bodyOf w)
    else
      match bit w 20, before with
      | true,  false => .fldmiad c wb rn (dd w) (bits w 1 7)
      | true,  true  => .fldmdbd c rn (dd w) (bits w 1 7)
      | false, false => .fstmiad c wb rn (dd w) (bits w 1 7)
      | false, true  => .fstmdbd c rn (dd w) (bits w 1 7)
  else if off == 0 then .unimplVfpRegisterList c (bodyOf w)
  else
    match bit w 20, before with
    | true,  false => .fldmias c wb rn (sd w) off
    | true,  true  => .fldmdbs c rn (sd w) off
    | false, false => .fstmias c wb rn (sd w) off
    | false, true  => .fstmdbs c rn (sd w) off

/-- `data_transfer` (49_vfp.md R418), `cp_num` being 10 or 11, by `(P, U, W)`. -/
def decodeDataTransfer (w : Word) : Instr :=
  match bit w 24, bit w 23, bit w 21 with
  | false, false, false =>
    if bit w 22 then decodeTwoRegister w else .unimplVfpAddressingMode (condOf w) (bodyOf w)
  | true,  _,     false => decodeOffsetTransfer w
  | false, true,  _     => decodeMultipleTransfer w false
  | true,  false, true  => decodeMultipleTransfer w true
  | false, false, true  => .unimplVfpAddressingMode (condOf w) (bodyOf w)
  | true,  true,  true  => .unimplVfpAddressingMode (condOf w) (bodyOf w)

/-- Whether `cp_num` is one of the VFP unit's (49_vfp.md R361, R364). -/
def isVfpWord (w : Word) : Bool := cpNumOf w == 10 || cpNumOf w == 11

/-- The VFP unit's row of a word of a coprocessor format (30_encoding.md R110, level `vfp`): the common part
of 49_vfp.md R361, then one of the three operations, told apart by the bits that classify the word. -/
def decodeVfp (w : Word) : Instr :=
  if !(isVfpWord w) then .unimplNoCoprocessor (condOf w) (bodyOf w)
  else if !(bit w 25) then decodeDataTransfer w
  else if bit w 4 then decodeRegisterTransfer w
  else decodeDataOperation w

/-- The condition field of an instruction (30_encoding.md R81). -/
def Instr.cond : Instr → Cond
  | .fmstat c => c
  | .bx c _ | .unimplHalfwordSH00 c _ | .unimplHalfwordSignedStore c _ | .unimplPsrTransfer c _
  | .unimplFlagsWithPcDest c _ | .unimplBadShiftEncoding c _ | .unimplBlockTransferSBit c _ | .b c _
  | .bl c _ | .swi c _ | .unimplVfpOpcode c _ | .fcmpzs c _ | .fcmpzd c _ | .fcmpezs c _ | .fcmpezd c _
  | .unimplVfpRegister c _ | .unimplNoCoprocessor c _ | .unimplVfpAddressingMode c _
  | .unimplVfpRegisterList c _ => c
  | .tst c _ _ | .teq c _ _ | .cmp c _ _ | .cmn c _ _ | .und c _ _ | .fcpys c _ _ | .fcpyd c _ _
  | .fabss c _ _ | .fabsd c _ _ | .fnegs c _ _ | .fnegd c _ _ | .fsqrts c _ _ | .fsqrtd c _ _ | .fcmps c _ _
  | .fcmpd c _ _ | .fcmpes c _ _ | .fcmped c _ _ | .fcvtds c _ _ | .fcvtsd c _ _ | .fuitos c _ _
  | .fuitod c _ _ | .fsitos c _ _ | .fsitod c _ _ | .ftouis c _ _ | .ftouid c _ _ | .ftouizs c _ _
  | .ftouizd c _ _ | .ftosis c _ _ | .ftosid c _ _ | .ftosizs c _ _ | .ftosizd c _ _ | .fmsr c _ _
  | .fmrs c _ _ | .fmdlr c _ _ | .fmrdl c _ _ | .fmdhr c _ _ | .fmrdh c _ _ | .fmrx c _ _ | .fmxr c _ _ => c
  | .swp c _ _ _ | .swpb c _ _ _ | .mov c _ _ _ | .mvn c _ _ _ | .ldmia c _ _ _ | .ldmib c _ _ _
  | .ldmda c _ _ _ | .ldmdb c _ _ _ | .stmia c _ _ _ | .stmib c _ _ _ | .stmda c _ _ _ | .stmdb c _ _ _
  | .fmacs c _ _ _ | .fmacd c _ _ _ | .fnmacs c _ _ _ | .fnmacd c _ _ _ | .fmscs c _ _ _ | .fmscd c _ _ _
  | .fnmscs c _ _ _ | .fnmscd c _ _ _ | .fmuls c _ _ _ | .fmuld c _ _ _ | .fnmuls c _ _ _ | .fnmuld c _ _ _
  | .fadds c _ _ _ | .faddd c _ _ _ | .fsubs c _ _ _ | .fsubd c _ _ _ | .fdivs c _ _ _ | .fdivd c _ _ _
  | .fmsrr c _ _ _ | .fmrrs c _ _ _ | .fmdrr c _ _ _ | .fmrrd c _ _ _ | .fldmdbs c _ _ _ | .fldmdbd c _ _ _
  | .fstmdbs c _ _ _ | .fstmdbd c _ _ _ => c
  | .mul c _ _ _ _ | .ldrh c _ _ _ _ | .strh c _ _ _ _ | .ldrsb c _ _ _ _ | .ldrsh c _ _ _ _ | .and c _ _ _ _
  | .eor c _ _ _ _ | .sub c _ _ _ _ | .rsb c _ _ _ _ | .add c _ _ _ _ | .adc c _ _ _ _ | .sbc c _ _ _ _
  | .rsc c _ _ _ _ | .orr c _ _ _ _ | .bic c _ _ _ _ | .ldr c _ _ _ _ | .str c _ _ _ _ | .ldrb c _ _ _ _
  | .strb c _ _ _ _ | .flds c _ _ _ _ | .fsts c _ _ _ _ | .fldd c _ _ _ _ | .fstd c _ _ _ _
  | .fldmias c _ _ _ _ | .fldmiad c _ _ _ _ | .fstmias c _ _ _ _ | .fstmiad c _ _ _ _ => c
  | .mla c _ _ _ _ _ | .umull c _ _ _ _ _ | .umlal c _ _ _ _ _ | .smull c _ _ _ _ _ | .smlal c _ _ _ _ _ => c
  | .cdp c _ _ _ _ _ _ | .mcr c _ _ _ _ _ _ | .mrc c _ _ _ _ _ _ => c
  | .ldc c _ _ _ _ _ _ _ _ | .stc c _ _ _ _ _ _ _ _ => c

/-- Whether an instruction is one of the engine's five coprocessor instructions. -/
def Instr.isGeneric : Instr → Bool
  | .ldc .. | .stc .. | .cdp .. | .mcr .. | .mrc .. => true
  | _ => false

/-- The instruction a word stands for. -/
def decodeWord (w : Word) : Except DecodeError Instr :=
  match decodeEngine w with
  | .ok i => .ok (if i.isGeneric && isVfpWord w then decodeVfp w else i)
  | .error e => .error e

/-- A word from its bytes, little-endian (20_memory.md R54). -/
def wordOfBytes (b0 b1 b2 b3 : Byte) : Word := b3 ++ b2 ++ b1 ++ b0

/-- The instruction at the front of a list of bytes, with the bytes after it (30_encoding.md R80: every
instruction is one word). -/
def decode : List Byte → Except DecodeError (Instr × List Byte)
  | b0 :: b1 :: b2 :: b3 :: rest =>
    match decodeWord (wordOfBytes b0 b1 b2 b3) with
    | .ok i => .ok (i, rest)
    | .error e => .error e
  | _ => .error .truncated

/-- The four bytes of a word as memory holds them, lowest address first (20_memory.md R54). -/
def bytesOfWord (w : Word) : List Byte := [bits w 0 8, bits w 8 8, bits w 16 8, bits w 24 8]

/-- The word whose low `nbits` bits are `w` and whose other bits are 0. -/
def tableWord (nbits w : Nat) : Word := BitVec.ofNat 32 (w % 2 ^ nbits)

/-- What the decoder reads from an instruction whose bits are `w`, numbered as the opcode table numbers
them, laid out as memory holds it. -/
def decodeTableWord (nbits w : Nat) : Option Instr :=
  match decode (bytesOfWord (tableWord nbits w)) with
  | .ok (i, _) => some i
  | .error _ => none

/-! ## The encoder -/

/-- The number of a condition (40_decode.md R123). -/
def Cond.code : Cond → BitVec 4
  | .eq => 0 | .ne => 1 | .cs => 2 | .cc => 3 | .mi => 4 | .pl => 5 | .vs => 6 | .vc => 7
  | .hi => 8 | .ls => 9 | .ge => 10 | .lt => 11 | .gt => 12 | .le => 13 | .al => 14 | .nv => 15

/-- The number of a shift type (30_encoding.md R85). -/
def ShiftType.code : ShiftType → BitVec 2
  | .lsl => 0 | .lsr => 1 | .asr => 2 | .ror => 3

/-- A field placed with its low bit at bit `lo`. -/
def put {n : Nat} (lo : Nat) (v : BitVec n) : Word := v.setWidth 32 <<< lo

/-- A one-bit field placed at bit `lo`. -/
def putBit (lo : Nat) (b : Bool) : Word := put lo (BitVec.ofBool b)

/-- The condition field over a fixed pattern of bits 27:0. -/
def withCond (c : Cond) (fixed : Word) : Word := put 28 c.code ||| fixed

/-- Bits 25 and 11:0 of a data-processing word (30_encoding.md R85). -/
def encodeOperand2 : Operand2 → Word
  | .imm rot imm8 => putBit 25 true ||| put 8 rot ||| put 0 imm8
  | .regImm rm ty amt => put 7 amt ||| put 5 ty.code ||| put 0 rm
  | .regReg rm ty rs => put 8 rs ||| put 5 ty.code ||| putBit 4 true ||| put 0 rm

/-- Format `DP` (30_encoding.md R84). -/
def encodeDp (c : Cond) (op : BitVec 4) (s : Bool) (rn rd : Reg) (o : Operand2) : Word :=
  withCond c (put 21 op ||| putBit 20 s ||| put 16 rn ||| put 12 rd ||| encodeOperand2 o)

/-- Formats `MUL` and `MULL` (30_encoding.md R86, R87): `op` is bits 23:21. -/
def encodeMul (c : Cond) (op : BitVec 3) (s : Bool) (hi lo rs rm : Reg) : Word :=
  withCond c (put 21 op ||| putBit 20 s ||| put 16 hi ||| put 12 lo ||| put 8 rs ||| put 4 (9 : BitVec 4) ||| put 0 rm)

/-- Format `SWP` (30_encoding.md R88). -/
def encodeSwp (c : Cond) (b : Bool) (rn rd rm : Reg) : Word :=
  withCond c (put 23 (2 : BitVec 5) ||| putBit 22 b ||| put 16 rn ||| put 12 rd ||| put 4 (9 : BitVec 8) ||| put 0 rm)

/-- `P`, `U`, `W` in place (30_encoding.md R90, R91). -/
def encodeIndex (ix : Index) : Word := putBit 24 ix.p ||| putBit 23 ix.u ||| putBit 21 ix.w

/-- Bits 22, 11:8 and 3:0 of a halfword transfer (30_encoding.md R90). -/
def encodeHdtOffset : HdtOffset → Word
  | .imm imm8 => putBit 22 true ||| put 8 (imm8.extractLsb' 4 4) ||| put 0 (imm8.extractLsb' 0 4)
  | .reg rm => put 0 rm

/-- Formats `HDT_REG` and `HDT_IMM` (30_encoding.md R90): `sh` is bits 6:5. -/
def encodeHdt (c : Cond) (l : Bool) (sh : BitVec 2) (ix : Index) (rn rd : Reg) (off : HdtOffset) : Word :=
  withCond c (encodeIndex ix ||| putBit 20 l ||| put 16 rn ||| put 12 rd ||| putBit 7 true ||| put 5 sh
    ||| putBit 4 true ||| encodeHdtOffset off)

/-- Bits 25 and 11:0 of a single data transfer (30_encoding.md R91). -/
def encodeSdtOffset : SdtOffset → Word
  | .imm imm12 => put 0 imm12
  | .reg rm ty amt => putBit 25 true ||| put 7 amt ||| put 5 ty.code ||| put 0 rm

/-- Format `SDT` (30_encoding.md R91). -/
def encodeSdt (c : Cond) (l b : Bool) (ix : Index) (rn rd : Reg) (off : SdtOffset) : Word :=
  withCond c (put 26 (1 : BitVec 2) ||| encodeIndex ix ||| putBit 22 b ||| putBit 20 l ||| put 16 rn ||| put 12 rd
    ||| encodeSdtOffset off)

/-- Format `BDT` (30_encoding.md R93). -/
def encodeBdt (c : Cond) (p u l w : Bool) (rn : Reg) (list : BitVec 16) : Word :=
  withCond c (put 25 (4 : BitVec 3) ||| putBit 24 p ||| putBit 23 u ||| putBit 21 w ||| putBit 20 l ||| put 16 rn
    ||| put 0 list)

/-- Format `B` (30_encoding.md R94). -/
def encodeB (c : Cond) (l : Bool) (imm24 : BitVec 24) : Word :=
  withCond c (put 25 (5 : BitVec 3) ||| putBit 24 l ||| put 0 imm24)

/-- Format `CDT` (30_encoding.md R96). -/
def encodeCdt (c : Cond) (l p u n w : Bool) (rn crd cpNum : BitVec 4) (offset8 : BitVec 8) : Word :=
  withCond c (put 25 (6 : BitVec 3) ||| putBit 24 p ||| putBit 23 u ||| putBit 22 n ||| putBit 21 w ||| putBit 20 l
    ||| put 16 rn ||| put 12 crd ||| put 8 cpNum ||| put 0 offset8)

/-- Format `CDO` (30_encoding.md R97). -/
def encodeCdo (c : Cond) (cpOpc crn crd cpNum : BitVec 4) (cp : BitVec 3) (crm : BitVec 4) : Word :=
  withCond c (put 24 (14 : BitVec 4) ||| put 20 cpOpc ||| put 16 crn ||| put 12 crd ||| put 8 cpNum ||| put 5 cp
    ||| put 0 crm)

/-- Format `CRT` (30_encoding.md R98). -/
def encodeCrt (c : Cond) (l : Bool) (cpOpc : BitVec 3) (crn rd cpNum : BitVec 4) (cp : BitVec 3) (crm : BitVec 4) : Word :=
  withCond c (put 24 (14 : BitVec 4) ||| put 21 cpOpc ||| putBit 20 l ||| put 16 crn ||| put 12 rd ||| put 8 cpNum
    ||| put 5 cp ||| putBit 4 true ||| put 0 crm)

/-- `Fd`, `Dx`, or `Fn`, `Nx`, or `Fm`, `Mx` in place (49_vfp.md R364). -/
def putSReg (lo x : Nat) (r : SReg) : Word := put lo (r.extractLsb' 1 4) ||| put x (r.extractLsb' 0 1)

/-- A VFP data operation without its operands: `pqrs`, the precision, and for the extension `Fn :: Nx`
(49_vfp.md R370, R380). -/
def vfpOp (c : Cond) (pqrs : BitVec 4) (dp : Bool) (operands : Word) : Word :=
  withCond c (put 24 (14 : BitVec 4) ||| put 23 (pqrs.extractLsb' 3 1) ||| put 20 (pqrs.extractLsb' 1 2)
    ||| put 9 (5 : BitVec 3) ||| putBit 8 dp ||| put 6 (pqrs.extractLsb' 0 1) ||| operands)

/-- Operation `pqrs` on three singles. -/
def vfpOp3S (c : Cond) (pqrs : BitVec 4) (d n m : SReg) : Word :=
  vfpOp c pqrs false (putSReg 12 22 d ||| putSReg 16 7 n ||| putSReg 0 5 m)

/-- Operation `pqrs` on three doubles. -/
def vfpOp3D (c : Cond) (pqrs : BitVec 4) (d n m : DReg) : Word :=
  vfpOp c pqrs true (put 12 d ||| put 16 n ||| put 0 m)

/-- Extension operation `ext` (49_vfp.md R380). -/
def vfpExt (c : Cond) (ext : BitVec 5) (dp : Bool) (operands : Word) : Word :=
  vfpOp c 15 dp (put 16 (ext.extractLsb' 1 4) ||| put 7 (ext.extractLsb' 0 1) ||| operands)

/-- A VFP register transfer (49_vfp.md R417). -/
def vfpTransfer (c : Cond) (dp : Bool) (opc : BitVec 3) (l : Bool) (rd : Reg) (operand : Word) : Word :=
  withCond c (put 24 (14 : BitVec 4) ||| put 21 opc ||| putBit 20 l ||| put 12 rd ||| put 9 (5 : BitVec 3)
    ||| putBit 8 dp ||| putBit 4 true ||| operand)

/-- A VFP two-register transfer (49_vfp.md R406). -/
def vfpTwo (c : Cond) (dp l : Bool) (rn rd : Reg) (operand : Word) : Word :=
  withCond c (put 21 (0x62 : BitVec 7) ||| putBit 20 l ||| put 16 rn ||| put 12 rd ||| put 9 (5 : BitVec 3)
    ||| putBit 8 dp ||| putBit 4 true ||| operand)

/-- A VFP load or store (49_vfp.md R418). -/
def vfpMem (c : Cond) (dp p u w l : Bool) (rn : Reg) (operand : Word) : Word :=
  withCond c (put 25 (6 : BitVec 3) ||| putBit 24 p ||| putBit 23 u ||| putBit 21 w ||| putBit 20 l ||| put 16 rn
    ||| put 9 (5 : BitVec 3) ||| putBit 8 dp ||| operand)

/-- A fault row's word. -/
def encodeBody (c : Cond) (b : Body) : Word := withCond c (put 0 b)

/-- The word of an instruction; the bits its rule ignores are 0. -/
def encode : Instr → Word
  | .bx c rm => withCond c (put 4 (0x12FFF1 : BitVec 24) ||| put 0 rm)
  | .swp c rn rd rm => encodeSwp c false rn rd rm
  | .swpb c rn rd rm => encodeSwp c true rn rd rm
  | .mul c s rd rs rm => encodeMul c 0 s rd 0 rs rm
  | .mla c s rd rn rs rm => encodeMul c 1 s rd rn rs rm
  | .umull c s hi lo rs rm => encodeMul c 4 s hi lo rs rm
  | .umlal c s hi lo rs rm => encodeMul c 5 s hi lo rs rm
  | .smull c s hi lo rs rm => encodeMul c 6 s hi lo rs rm
  | .smlal c s hi lo rs rm => encodeMul c 7 s hi lo rs rm
  | .unimplHalfwordSH00 c b => encodeBody c b
  | .unimplHalfwordSignedStore c b => encodeBody c b
  | .ldrh c ix rn rd off => encodeHdt c true 1 ix rn rd off
  | .strh c ix rn rd off => encodeHdt c false 1 ix rn rd off
  | .ldrsb c ix rn rd off => encodeHdt c true 2 ix rn rd off
  | .ldrsh c ix rn rd off => encodeHdt c true 3 ix rn rd off
  | .unimplPsrTransfer c b => encodeBody c b
  | .unimplFlagsWithPcDest c b => encodeBody c b
  | .unimplBadShiftEncoding c b => encodeBody c b
  | .and c s rn rd o => encodeDp c 0 s rn rd o
  | .eor c s rn rd o => encodeDp c 1 s rn rd o
  | .sub c s rn rd o => encodeDp c 2 s rn rd o
  | .rsb c s rn rd o => encodeDp c 3 s rn rd o
  | .add c s rn rd o => encodeDp c 4 s rn rd o
  | .adc c s rn rd o => encodeDp c 5 s rn rd o
  | .sbc c s rn rd o => encodeDp c 6 s rn rd o
  | .rsc c s rn rd o => encodeDp c 7 s rn rd o
  | .tst c rn o => encodeDp c 8 true rn 0 o
  | .teq c rn o => encodeDp c 9 true rn 0 o
  | .cmp c rn o => encodeDp c 10 true rn 0 o
  | .cmn c rn o => encodeDp c 11 true rn 0 o
  | .orr c s rn rd o => encodeDp c 12 s rn rd o
  | .mov c s rd o => encodeDp c 13 s 0 rd o
  | .bic c s rn rd o => encodeDp c 14 s rn rd o
  | .mvn c s rd o => encodeDp c 15 s 0 rd o
  | .und c hi lo => withCond c (put 25 (3 : BitVec 3) ||| put 5 hi ||| putBit 4 true ||| put 0 lo)
  | .ldr c ix rn rd off => encodeSdt c true false ix rn rd off
  | .str c ix rn rd off => encodeSdt c false false ix rn rd off
  | .ldrb c ix rn rd off => encodeSdt c true true ix rn rd off
  | .strb c ix rn rd off => encodeSdt c false true ix rn rd off
  | .unimplBlockTransferSBit c b => encodeBody c b
  | .ldmia c w rn list => encodeBdt c false true true w rn list
  | .ldmib c w rn list => encodeBdt c true true true w rn list
  | .ldmda c w rn list => encodeBdt c false false true w rn list
  | .ldmdb c w rn list => encodeBdt c true false true w rn list
  | .stmia c w rn list => encodeBdt c false true false w rn list
  | .stmib c w rn list => encodeBdt c true true false w rn list
  | .stmda c w rn list => encodeBdt c false false false w rn list
  | .stmdb c w rn list => encodeBdt c true false false w rn list
  | .b c imm24 => encodeB c false imm24
  | .bl c imm24 => encodeB c true imm24
  | .ldc c p u n w rn crd cpNum offset8 => encodeCdt c true p u n w rn crd cpNum offset8
  | .stc c p u n w rn crd cpNum offset8 => encodeCdt c false p u n w rn crd cpNum offset8
  | .cdp c cpOpc crn crd cpNum cp crm => encodeCdo c cpOpc crn crd cpNum cp crm
  | .mcr c cpOpc crn rd cpNum cp crm => encodeCrt c false cpOpc crn rd cpNum cp crm
  | .mrc c cpOpc crn rd cpNum cp crm => encodeCrt c true cpOpc crn rd cpNum cp crm
  | .swi c comment => withCond c (put 24 (15 : BitVec 4) ||| put 0 comment)
  | .fmacs c d n m => vfpOp3S c 0 d n m
  | .fmacd c d n m => vfpOp3D c 0 d n m
  | .fnmacs c d n m => vfpOp3S c 1 d n m
  | .fnmacd c d n m => vfpOp3D c 1 d n m
  | .fmscs c d n m => vfpOp3S c 2 d n m
  | .fmscd c d n m => vfpOp3D c 2 d n m
  | .fnmscs c d n m => vfpOp3S c 3 d n m
  | .fnmscd c d n m => vfpOp3D c 3 d n m
  | .fmuls c d n m => vfpOp3S c 4 d n m
  | .fmuld c d n m => vfpOp3D c 4 d n m
  | .fnmuls c d n m => vfpOp3S c 5 d n m
  | .fnmuld c d n m => vfpOp3D c 5 d n m
  | .fadds c d n m => vfpOp3S c 6 d n m
  | .faddd c d n m => vfpOp3D c 6 d n m
  | .fsubs c d n m => vfpOp3S c 7 d n m
  | .fsubd c d n m => vfpOp3D c 7 d n m
  | .fdivs c d n m => vfpOp3S c 8 d n m
  | .fdivd c d n m => vfpOp3D c 8 d n m
  | .unimplVfpOpcode c b => encodeBody c b
  | .fcpys c d m => vfpExt c 0 false (putSReg 12 22 d ||| putSReg 0 5 m)
  | .fcpyd c d m => vfpExt c 0 true (put 12 d ||| put 0 m)
  | .fabss c d m => vfpExt c 1 false (putSReg 12 22 d ||| putSReg 0 5 m)
  | .fabsd c d m => vfpExt c 1 true (put 12 d ||| put 0 m)
  | .fnegs c d m => vfpExt c 2 false (putSReg 12 22 d ||| putSReg 0 5 m)
  | .fnegd c d m => vfpExt c 2 true (put 12 d ||| put 0 m)
  | .fsqrts c d m => vfpExt c 3 false (putSReg 12 22 d ||| putSReg 0 5 m)
  | .fsqrtd c d m => vfpExt c 3 true (put 12 d ||| put 0 m)
  | .fcmps c d m => vfpExt c 8 false (putSReg 12 22 d ||| putSReg 0 5 m)
  | .fcmpd c d m => vfpExt c 8 true (put 12 d ||| put 0 m)
  | .fcmpes c d m => vfpExt c 9 false (putSReg 12 22 d ||| putSReg 0 5 m)
  | .fcmped c d m => vfpExt c 9 true (put 12 d ||| put 0 m)
  | .fcmpzs c d => vfpExt c 10 false (putSReg 12 22 d)
  | .fcmpzd c d => vfpExt c 10 true (put 12 d)
  | .fcmpezs c d => vfpExt c 11 false (putSReg 12 22 d)
  | .fcmpezd c d => vfpExt c 11 true (put 12 d)
  | .fcvtds c d m => vfpExt c 15 false (put 12 d ||| putSReg 0 5 m)
  | .fcvtsd c d m => vfpExt c 15 true (putSReg 12 22 d ||| put 0 m)
  | .fuitos c d m => vfpExt c 16 false (putSReg 12 22 d ||| putSReg 0 5 m)
  | .fuitod c d m => vfpExt c 16 true (put 12 d ||| putSReg 0 5 m)
  | .fsitos c d m => vfpExt c 17 false (putSReg 12 22 d ||| putSReg 0 5 m)
  | .fsitod c d m => vfpExt c 17 true (put 12 d ||| putSReg 0 5 m)
  | .ftouis c d m => vfpExt c 24 false (putSReg 12 22 d ||| putSReg 0 5 m)
  | .ftouid c d m => vfpExt c 24 true (putSReg 12 22 d ||| put 0 m)
  | .ftouizs c d m => vfpExt c 25 false (putSReg 12 22 d ||| putSReg 0 5 m)
  | .ftouizd c d m => vfpExt c 25 true (putSReg 12 22 d ||| put 0 m)
  | .ftosis c d m => vfpExt c 26 false (putSReg 12 22 d ||| putSReg 0 5 m)
  | .ftosid c d m => vfpExt c 26 true (putSReg 12 22 d ||| put 0 m)
  | .ftosizs c d m => vfpExt c 27 false (putSReg 12 22 d ||| putSReg 0 5 m)
  | .ftosizd c d m => vfpExt c 27 true (putSReg 12 22 d ||| put 0 m)
  | .unimplVfpRegister c b => encodeBody c b
  | .unimplNoCoprocessor c b => encodeBody c b
  | .fmsr c n rd => vfpTransfer c false 0 false rd (putSReg 16 7 n)
  | .fmrs c n rd => vfpTransfer c false 0 true rd (putSReg 16 7 n)
  | .fmdlr c n rd => vfpTransfer c true 0 false rd (put 16 n)
  | .fmrdl c n rd => vfpTransfer c true 0 true rd (put 16 n)
  | .fmdhr c n rd => vfpTransfer c true 1 false rd (put 16 n)
  | .fmrdh c n rd => vfpTransfer c true 1 true rd (put 16 n)
  | .fmrx c fn rd => vfpTransfer c false 7 true rd (put 16 fn)
  | .fmstat c => vfpTransfer c false 7 true 15 (put 16 (1 : BitVec 4))
  | .fmxr c fn rd => vfpTransfer c false 7 false rd (put 16 fn)
  | .fmsrr c rn rd m => vfpTwo c false false rn rd (putSReg 0 5 m)
  | .fmrrs c rn rd m => vfpTwo c false true rn rd (putSReg 0 5 m)
  | .fmdrr c rn rd m => vfpTwo c true false rn rd (put 0 m)
  | .fmrrd c rn rd m => vfpTwo c true true rn rd (put 0 m)
  | .flds c u rn d off => vfpMem c false true u false true rn (putSReg 12 22 d ||| put 0 off)
  | .fsts c u rn d off => vfpMem c false true u false false rn (putSReg 12 22 d ||| put 0 off)
  | .fldd c u rn d off => vfpMem c true true u false true rn (put 12 d ||| put 0 off)
  | .fstd c u rn d off => vfpMem c true true u false false rn (put 12 d ||| put 0 off)
  | .unimplVfpAddressingMode c b => encodeBody c b
  | .unimplVfpRegisterList c b => encodeBody c b
  | .fldmias c w rn f n => vfpMem c false false true w true rn (putSReg 12 22 f ||| put 0 n)
  | .fldmiad c w rn f n => vfpMem c true false true w true rn (put 12 f ||| put 1 n)
  | .fstmias c w rn f n => vfpMem c false false true w false rn (putSReg 12 22 f ||| put 0 n)
  | .fstmiad c w rn f n => vfpMem c true false true w false rn (put 12 f ||| put 1 n)
  | .fldmdbs c rn f n => vfpMem c false true false true true rn (putSReg 12 22 f ||| put 0 n)
  | .fldmdbd c rn f n => vfpMem c true true false true true rn (put 12 f ||| put 1 n)
  | .fstmdbs c rn f n => vfpMem c false true false true false rn (putSReg 12 22 f ||| put 0 n)
  | .fstmdbd c rn f n => vfpMem c true true false true false rn (put 12 f ||| put 1 n)

end Sys2Proof
end

