-- ==== Sys2Proof/Machine/Setup.lean ====
section
/-!
DEFINITION. The values of the plain parameters: those 00_scope.md R4 and 41_shifter.md R150 give this
hardware, and, for the parameters the spec leaves open, the values `State.reset` is built with (log entry 2).
-/

namespace Sys2Proof.Machine

/-- The offsets of register 15, one per read site (41_shifter.md R150, column "value"). UNVERIFIED, unsafe
(log entry 13): the spec decides some and calls the source's own numbers unaudited. -/
def offsets : Offsets where
  branch   := 4
  link     := 0
  dpRn     := 8
  dpRmImm  := 4
  dpRmReg  := 8
  dpRs     := 0
  sdtBase  := 8
  sdtRm    := 4
  sdtStore := 12
  hdtBase  := 8
  hdtRm    := 0
  hdtStore := 8
  stmStore := 8
  bdtBase  := 0
  mul      := 0
  swp      := 0
  bx       := 0
  cop      := 0

/-- The default of `VFP_DT_MODES`: all four (49_vfp.md R418). -/
def allDtModes : DtModes where
  ia  := true
  iaw := true
  dbw := true

/-- The parameters `State.reset` is built with: `COND_1111`, `VFP_DT_MODES` and `OFF_*` as the spec gives
them for this hardware; `MEM_SIZE` the whole 32-bit space, `MEM_VARIANT` Raw, `COPROC` VFP and
`FPSID_VALUE` 0. DESIGN CHOICE (unsafe, log entry 2): the spec leaves the last four open; a statement about
all states holds for every value of them. -/
def defaultSetup : Setup where
  memSize  := 2 ^ 32
  variant  := .raw
  coproc   := .vfp
  cond1111 := .fault
  dtModes  := allDtModes
  off      := offsets
  fpsid    := 0

end Sys2Proof.Machine
end

