-- ==== Sys2Proof/Machine/State.lean ====
section
/-!
DEFINITION. The state of the machine as plain data, the reasons a step can stop, and the state after reset.
-/

namespace Sys2Proof.Machine

/-- The memory image (20_memory.md R50): the bytes that are not 0, by rising address. An address that is not
listed holds 0, the value `init` fills the image with (10_state.md R37; DEDUCED, safe, log entry 11). `Memory.wf` (Ops.lean) is the form. -/
abbrev Memory := List Host.Cell

/-- The run state (10_state.md R35): `exited i` is what an SWI leaves for the host to read; a new `run` call
starts Running whatever it finds (log entry 3). -/
inductive RunState where
  | running
  | exited (i : Interrupt)
deriving DecidableEq, Repr

/-- Everything the spec gives the machine. -/
structure State where
  /-- `x[0]` to `x[15]` (10_state.md R20); `x[15]` is the program counter (R23). -/
  regs   : Vector Word 16
  /-- CPSR: N, Z, C, V in bits 31:28, bits 27:0 always 0 (10_state.md R26). -/
  cpsr   : Word
  /-- SPSR, which no instruction touches (10_state.md R29). DESIGN CHOICE, safe (log entry 20): a model may omit it. -/
  spsr   : Word
  /-- The VFP bank (10_state.md R30). -/
  slots  : Vector Word 32
  /-- FPSCR: compare flags in bits 31:28 (10_state.md R32). -/
  fpscr  : Word
  /-- FPEXC, which no instruction touches (10_state.md R33). -/
  fpexc  : Word
  /-- The memory image. -/
  mem    : Memory
  /-- `ACCESS_RANGES`, changed by the host between runs only (20_memory.md R57, R60). -/
  ranges : List AccessRange
  /-- The fixed parameters, carried as constant data (00_scope.md R11, log entry 1). -/
  setup  : Setup
  /-- The run state. -/
  run    : RunState
deriving DecidableEq, Repr

/-- The faults of the memory port (20_memory.md R53), with the address, the width and the kind of the
failing access. Safe: each is an outcome the spec names. -/
inductive MemFault where
  /-- Protected variant: no range authorises the access (R57). -/
  | segFault (addr : Word) (n : Nat) (kind : AccessKind)
  /-- A byte of the access lies outside the image (R58). -/
  | outOfRange (addr : Word) (n : Nat)
deriving DecidableEq, Repr

/-- Why a step ends with `Fault(k)` (60_exceptions.md R430, R431), each with the state at the fault (R434):
what the host finds, and for a memory fault where a new run goes on (R437). DESIGN CHOICE, safe (log entry 12). -/
inductive Fault where
  /-- Raised by a word of the undefined format, by condition field `1111`, and by a word no format matches
  (47_system.md R321, 40_decode.md R125). Fatal: no successor. Safe: the spec's own outcome. -/
  | undefined (s : State)
  /-- Raised by the words the spec gives no meaning, with its reason (R431). Fatal: no successor. Safe: the
  spec's own outcome. -/
  | unimplemented (why : UnimplReason) (s : State)
  /-- Raised by the memory port, for a fetch or a data access. Recoverable: a new run starts from `s`
  (R437). Safe: the spec's own outcome. -/
  | memory (f : MemFault) (s : State)
deriving DecidableEq, Repr

/-- Why the model has no meaning for an instruction. -/
inductive Refusal where
  /-- Raised by a row of Dispatch.lean that has no meaning yet; there is none left. Safe: nothing is claimed
  of the instruction. -/
  | notModelled (mnemonic : String)
deriving DecidableEq, Repr

/-- The outcome of one instruction or one step (00_scope.md R8). `Exit(i)` is a next state whose run state
is `exited i` (log entry 3). -/
abbrev Result := Host.Outcome State Fault Refusal

/-- The state after the host operation `init` (10_state.md R37, 70_reset_and_hazards.md R460, R461), for any
parameters and any draw of `VFP_RESET`: registers and status 0, memory 0 throughout, no access range. -/
def State.init (p : Setup) (bank : Vector Word 32) (fpscr fpexc : Word) : State where
  regs   := Vector.replicate 16 0
  cpsr   := 0
  spsr   := 0
  slots  := bank
  fpscr  := fpscr
  fpexc  := fpexc
  mem    := []
  ranges := []
  setup  := p
  run    := .running

/-- The machine right after reset. The spec leaves the VFP bank, FPSCR and FPEXC unspecified (R37):
DESIGN CHOICE (unsafe, log entry 5), they are 0 here; nothing is stated of this draw. -/
def State.reset : State := State.init defaultSetup (Vector.replicate 32 0) 0 0

end Sys2Proof.Machine
end

