-- ==== Sys2Proof/Machine/Flags.lean ====
section
/-!
DEFINITION. The four condition flags: reading them, writing them, the condition evaluator, and the flag
results of the ALU's logical, additive and subtractive opcodes.
-/

namespace Sys2Proof.Machine

/-- CPSR bit 31 (10_state.md R26). -/
def State.flagN (s : State) : Bool := s.cpsr.getLsbD 31
/-- CPSR bit 30. -/
def State.flagZ (s : State) : Bool := s.cpsr.getLsbD 30
/-- CPSR bit 29. -/
def State.flagC (s : State) : Bool := s.cpsr.getLsbD 29
/-- CPSR bit 28. -/
def State.flagV (s : State) : Bool := s.cpsr.getLsbD 28

/-- A status register with its bits 31:28 replaced and its bits 27:0 kept. -/
def withTopBits (r : Word) (n z c v : Bool) : Word :=
  BitVec.ofBool n ++ BitVec.ofBool z ++ BitVec.ofBool c ++ BitVec.ofBool v ++ r.extractLsb' 0 28

/-- `NZCV <- b` (00_scope.md R6). -/
def State.setFlags (s : State) (n z c v : Bool) : State := { s with cpsr := withTopBits s.cpsr n z c v }

/-- The condition evaluator on the four flags (40_decode.md R123). The field `1111` is not evaluated
(R125). -/
def condHolds (c : Cond) (n z cf v : Bool) : Bool :=
  match c with
  | .eq => z
  | .ne => !z
  | .cs => cf
  | .cc => !cf
  | .mi => n
  | .pl => !n
  | .vs => v
  | .vc => !v
  | .hi => cf && !z
  | .ls => !cf || z
  | .ge => n == v
  | .lt => n != v
  | .gt => !z && n == v
  | .le => z || n != v
  | .al => true
  | .nv => false

/-- What the ALU answers: the result and the flags C and V; N and Z are the result's. -/
structure AluOut where
  result : Word
  c      : Bool
  v      : Bool
deriving DecidableEq, Repr

/-- The flags of an ALU answer written (42_data_processing.md R181 to R183). -/
def State.setAluFlags (s : State) (r : AluOut) : State := s.setFlags r.result.msb (r.result == 0) r.c r.v

/-- A logical opcode: C is the shifter's carry-out, V is kept (42_data_processing.md R181). -/
def logicOut (result : Word) (sc v : Bool) : AluOut := ⟨result, sc, v⟩

/-- An additive opcode on addends `a`, `b` and carry-in `cin` (42_data_processing.md R182). -/
def addOut (a b : Word) (cin : Bool) : AluOut :=
  let sum := a.toNat + b.toNat + cin.toNat
  let result := BitVec.ofNat 32 sum
  ⟨result, decide (2 ^ 32 ≤ sum), a.msb == b.msb && result.msb != a.msb⟩

/-- A subtractive opcode: minuend `a`, subtrahend `b`, `cin` 1 for no borrow in
(42_data_processing.md R183). -/
def subOut (a b : Word) (cin : Bool) : AluOut :=
  let diff : Int := (a.toNat : Int) - b.toNat - (1 - cin.toNat)
  let result := BitVec.ofInt 32 diff
  ⟨result, decide (0 ≤ diff), a.msb != b.msb && result.msb != a.msb⟩

/-- N and Z of a multiply, C and V kept (43_multiply.md R226). -/
def State.setNZ (s : State) (n z : Bool) : State := s.setFlags n z s.flagC s.flagV

end Sys2Proof.Machine
end

