-- ==== Sys2Proof/Machine/Ops.lean ====
section
/-!
DEFINITION. The named operations over memory and registers, and the ways a step ends. This hardware has no
exception entry and no exception return (60_exceptions.md R432): what stands in their place is the one
operation `exit` for a software interrupt and the three fault operations below, all shared.
-/

namespace Sys2Proof.Machine

/-! ## Memory as data -/

/-- The byte of an address; 0 where nothing is listed. -/
def Memory.read : Memory → Nat → Byte
  | [], _ => 0
  | (k, v) :: m, a => if k = a then v else Memory.read m a

/-- One byte written; a 0 is stored by leaving the address out. -/
def Memory.write : Memory → Nat → Byte → Memory
  | [], a, v => if v = 0 then [] else [(a, v)]
  | (k, w) :: m, a, v =>
    if a < k then (if v = 0 then (k, w) :: m else (a, v) :: (k, w) :: m)
    else if a = k then (if v = 0 then m else (a, v) :: m)
    else (k, w) :: Memory.write m a v

/-- The canonical form: addresses strictly rising, no byte that an unlisted address would read as. -/
abbrev Memory.wf (m : Memory) : Prop := m.Pairwise (·.1 < ·.1) ∧ ∀ c ∈ m, c.2 ≠ 0

/-- The `n` bytes from `a` as an unsigned integer, little-endian (20_memory.md R54). -/
def Memory.readN (m : Memory) : Nat → Nat → Nat
  | _, 0 => 0
  | a, n + 1 => (m.read a).toNat + 256 * Memory.readN m (a + 1) n

/-- The low `8n` bits of `v` written to the `n` bytes from `a`, little-endian (20_memory.md R54). -/
def Memory.writeN (m : Memory) : Nat → Nat → Nat → Memory
  | _, 0, _ => m
  | a, n + 1, v => Memory.writeN (m.write a (BitVec.ofNat 8 v)) (a + 1) n (v / 256)

/-! ## The memory port -/

/-- Whether a permission grants a kind of access (20_memory.md R57). -/
def covers (p : Permission) (kind : AccessKind) : Bool :=
  match p, kind with
  | .readWrite, _ => true
  | .read, .read => true
  | .write, .write => true
  | _, _ => false

/-- Whether one range authorises an access, in unbounded integers (20_memory.md R57, R62). -/
def allows (r : AccessRange) (a : Word) (n : Nat) (kind : AccessKind) : Bool :=
  covers r.perm kind && decide (r.start.toNat ≤ a.toNat) && decide (a.toNat + n ≤ r.start.toNat + r.size)

/-- Whether some one range authorises an access (20_memory.md R57). -/
def authorized (ranges : List AccessRange) (a : Word) (n : Nat) (kind : AccessKind) : Bool :=
  ranges.any fun r => allows r a n kind

/-- The checks of an access: in the Protected variant the authorisation first, then the image's bound
(20_memory.md R57, R58). `none` lets it through. UNVERIFIED, unsafe (log entry 26): the spec's decisions D32, D33. -/
def checkAccess (s : State) (a : Word) (n : Nat) (kind : AccessKind) : Option MemFault :=
  if s.setup.variant = .prot ∧ authorized s.ranges a n kind = false then some (.segFault a n kind)
  else if s.setup.memSize < a.toNat + n then some (.outOfRange a n)
  else none

/-- `MemRead(a, n)` (20_memory.md R53). -/
def memRead (s : State) (a : Word) (n : Nat) : Except MemFault Nat :=
  match checkAccess s a n .read with
  | some f => .error f
  | none => .ok (s.mem.readN a.toNat n)

/-- `MemWrite(a, n, v)` (20_memory.md R53); a failing write changes nothing (R59). No
address has a side effect: DEDUCED, unsafe (log entry 21). -/
def memWrite (s : State) (a : Word) (n v : Nat) : Except MemFault State :=
  match checkAccess s a n .write with
  | some f => .error f
  | none => .ok { s with mem := s.mem.writeN a.toNat n v }

/-! ## How a step ends -/

/-- `raise Undefined` (00_scope.md R8). -/
def undefined (s : State) : Result := .fault (.undefined s)

/-- `raise Unimplemented(reason)`. -/
def unimplemented (why : UnimplReason) (s : State) : Result := .fault (.unimplemented why s)

/-- `raise SegFault(..)` or `raise OutOfRange(..)`, in the state the writes made before leave
(60_exceptions.md R434). -/
def memoryFault (f : MemFault) (s : State) : Result := .fault (.memory f s)

/-- `exit(i)`: the run returns `i`; no register, flag or memory write (47_system.md R320, 60_exceptions.md
R433). -/
def exit (i : Interrupt) (s : State) : Result := .next { s with run := .exited i }

/-- A read of the port, and what the instruction does with the value. -/
def loading (s : State) (a : Word) (n : Nat) (k : Nat → Result) : Result :=
  match memRead s a n with
  | .ok v => k v
  | .error f => memoryFault f s

/-- A write of the port, and what the instruction does after it. -/
def storing (s : State) (a : Word) (n v : Nat) (k : State → Result) : Result :=
  match memWrite s a n v with
  | .ok s' => k s'
  | .error f => memoryFault f s

/-! ## Registers -/

/-- `x[i]` as stored (00_scope.md R6). -/
def State.reg (s : State) (r : Reg) : Word := s.regs[r.toNat]'r.isLt

/-- `x[i] <- v`; a write of register 15 is stored as it is (10_state.md R24). -/
def State.setReg (s : State) (r : Reg) (v : Word) : State := { s with regs := s.regs.set r.toNat v r.isLt }

/-- The program counter. -/
def State.pc (s : State) : Word := s.reg 15

/-- `S[i]` (49_vfp.md R360). -/
def State.sreg (s : State) (i : SReg) : Word := s.slots[i.toNat]'i.isLt

/-- `S[i] <- v`. -/
def State.setSReg (s : State) (i : SReg) (v : Word) : State := { s with slots := s.slots.set i.toNat v i.isLt }

/-- The slot of the low word of `D[i]`. -/
def lowSlot (i : DReg) : SReg := i ++ (0 : BitVec 1)

/-- The slot of the high word of `D[i]`. -/
def highSlot (i : DReg) : SReg := i ++ (1 : BitVec 1)

/-- `D[i] = slot[2i+1] :: slot[2i]` (49_vfp.md R360). -/
def State.dreg (s : State) (i : DReg) : Dword := s.sreg (highSlot i) ++ s.sreg (lowSlot i)

/-- `D[i] <- v`: the low word, then the high word. -/
def State.setDReg (s : State) (i : DReg) (v : Dword) : State :=
  (s.setSReg (lowSlot i) (v.extractLsb' 0 32)).setSReg (highSlot i) (v.extractLsb' 32 32)

/-! ## Fetch, and the condition -/

/-- The start of a `run` call or of a further iteration: Running (10_state.md R35). -/
def State.resume (s : State) : State := { s with run := .running }

/-- Fetch (40_decode.md R121): the word at `x[15]`, then `x[15]` advanced; a failing read leaves `x[15]`. -/
def fetch (s : State) (k : Word → State → Result) : Result :=
  loading s s.pc 4 fun w => k (BitVec.ofNat 32 w) (s.setReg 15 (s.pc + 4))

/-- The instruction of a fetched word, run; a word no format matches is Undefined (30_encoding.md R83). -/
def runWord (run : Instr → State → Result) (w : Word) (s : State) : Result :=
  match decodeWord w with
  | .ok i => run i s
  | .error _ => undefined s

/-- The four bytes of an instruction word put where the next fetch reads, and, where the Protected variant
would turn that fetch away, the range that lets it through. -/
def State.placeWord (s : State) (w : Word) : State :=
  { s with
    mem := s.mem.writeN s.pc.toNat 4 w.toNat
    ranges := if authorized s.ranges s.pc 4 .read then s.ranges
      else if s.setup.variant = .prot then s.ranges ++ [⟨s.pc, 4, .read⟩] else s.ranges }

/-- What the condition field makes of an instruction. -/
inductive CondResult where
  | passes
  | fails
  | reserved  -- field `1111` where `COND_1111` is Fault
deriving DecidableEq, Repr

/-- The condition test (40_decode.md R123 to R125). UNVERIFIED, unsafe (log entry 16): the spec's decisions
D3 and D4. -/
def condTest (c : Cond) (s : State) : CondResult :=
  if c = .nv then
    match s.setup.cond1111 with
    | .fault => .reserved
    | .never => .fails
  else if condHolds c s.flagN s.flagZ s.flagC s.flagV then .passes
  else .fails

/-- The execution of an instruction under its condition (40_decode.md R120, R124, R125): a failed condition
leaves the state as fetch left it. -/
def whenCond (c : Cond) (s : State) (k : State → Result) : Result :=
  match condTest c s with
  | .passes => k s
  | .fails => .next s
  | .reserved => undefined s

end Sys2Proof.Machine
end

