-- ==== Sys2Proof/Machine/Operands.lean ====
section
/-!
DEFINITION. Operand forms: register 15 as an operand, the barrel shifter, operand2, and the addresses of
single transfers.
-/

namespace Sys2Proof.Machine

/-- `rd(i, off)`: register 15 reads with the offset of the site (00_scope.md R6, 41_shifter.md R150). -/
def State.rd (s : State) (r : Reg) (off : Nat) : Word :=
  if r = 15 then s.reg 15 + BitVec.ofNat 32 off else s.reg r

/-- The encoding a shift amount comes from (41_shifter.md R151). -/
inductive ShiftEnc where
  | imm | reg
deriving DecidableEq, Repr

/-- The barrel shifter's answer (41_shifter.md R151). -/
structure Shifted where
  value : Word
  cout  : Bool
deriving DecidableEq, Repr

/-- The data-processing immediate (30_encoding.md R100). -/
def immRotate (imm8 : BitVec 8) (rot : BitVec 4) : Word :=
  let r := 2 * rot.toNat
  let v := imm8.setWidth 32
  if r = 0 then v else v >>> r ||| v <<< (32 - r)

/-- The immediate and its carry-out (41_shifter.md R152). -/
def shiftImmediate (imm8 : BitVec 8) (rot : BitVec 4) : Shifted :=
  let v := immRotate imm8 rot
  ⟨v, if rot = 0 then false else v.msb⟩

/-- Rotate right extend (41_shifter.md R157). -/
def shiftRrx (c : Bool) (v : Word) : Shifted := ⟨BitVec.ofBool c ++ v.extractLsb' 1 31, v.getLsbD 0⟩

/-- Logical left (41_shifter.md R154). -/
def shiftLsl (v : Word) (amt : Nat) : Shifted :=
  if amt = 0 then ⟨v, false⟩
  else if amt < 32 then ⟨v <<< amt, v.getLsbD (32 - amt)⟩
  else if amt = 32 then ⟨0, v.getLsbD 0⟩
  else ⟨0, false⟩

/-- Logical right (41_shifter.md R155). -/
def shiftLsr (v : Word) (amt : Nat) : Shifted :=
  if amt = 0 then ⟨v, false⟩
  else if amt < 32 then ⟨v >>> amt, v.getLsbD (amt - 1)⟩
  else if amt = 32 then ⟨0, v.msb⟩
  else ⟨0, false⟩

/-- Arithmetic right; amount 0 is RRX in both encodings (41_shifter.md R153, R156). -/
def shiftAsr (c : Bool) (v : Word) (amt : Nat) : Shifted :=
  if amt = 0 then shiftRrx c v
  else if amt < 32 then ⟨v.sshiftRight amt, v.getLsbD (amt - 1)⟩
  else ⟨if v.msb then 0xFFFFFFFF else 0, v.msb⟩

/-- Rotate right; amount 0 is RRX in the immediate encoding only (41_shifter.md R158). -/
def shiftRor (c : Bool) (v : Word) (amt : Nat) (enc : ShiftEnc) : Shifted :=
  let r := amt % 32
  if amt = 0 then
    match enc with
    | .imm => shiftRrx c v
    | .reg => ⟨v, false⟩
  else if r = 0 then ⟨v, v.msb⟩
  else ⟨v >>> r ||| v <<< (32 - r), v.getLsbD (r - 1)⟩

/-- The barrel shifter (41_shifter.md R151); `c` is the current C flag. UNVERIFIED, unsafe (log entry 15): the spec
decides rows the source does not give. -/
def shift (c : Bool) (ty : ShiftType) (v : Word) (amt : Nat) (enc : ShiftEnc) : Shifted :=
  match ty with
  | .lsl => shiftLsl v amt
  | .lsr => shiftLsr v amt
  | .asr => shiftAsr c v amt
  | .ror => shiftRor c v amt enc

/-- The amount of a register shift: the low byte of `Rs` (41_shifter.md R151). -/
def shiftAmount (s : State) (rs : Reg) : Nat := ((s.rd rs s.setup.off.dpRs).extractLsb' 0 8).toNat

/-- Operand2 of data processing (41_shifter.md R151). -/
def operand2 (s : State) : Operand2 → Shifted
  | .imm rot imm8 => shiftImmediate imm8 rot
  | .regImm rm ty amt => shift s.flagC ty (s.rd rm s.setup.off.dpRmImm) amt.toNat .imm
  | .regReg rm ty rs => shift s.flagC ty (s.rd rm s.setup.off.dpRmReg) (shiftAmount s rs) .reg

/-- The offset of a single data transfer (44_single_transfer.md R240, 41_shifter.md R160). -/
def sdtOffset (s : State) : SdtOffset → Word
  | .imm imm12 => imm12.setWidth 32
  | .reg rm ty amt => (shift s.flagC ty (s.rd rm s.setup.off.sdtRm) amt.toNat .imm).value

/-- The offset of a halfword or signed transfer (44_single_transfer.md R246). -/
def hdtOffset (s : State) : HdtOffset → Word
  | .imm imm8 => imm8.setWidth 32
  | .reg rm => s.rd rm s.setup.off.hdtRm

/-- The addresses of a single transfer: where it accesses, and what a write-back writes. -/
structure Address where
  addr   : Word
  target : Word
  wb     : Bool
deriving DecidableEq, Repr

/-- Base and offset combined by `P`, `U`, `W` (44_single_transfer.md R240, R246, R256). -/
def addressOf (ix : Index) (base offset : Word) : Address :=
  let target := if ix.u then base + offset else base - offset
  ⟨if ix.p then target else base, target, !ix.p || ix.w⟩

/-- The address of a single data transfer (44_single_transfer.md R240). -/
def sdtAddress (s : State) (ix : Index) (rn : Reg) (off : SdtOffset) : Address :=
  addressOf ix (s.rd rn s.setup.off.sdtBase) (sdtOffset s off)

/-- The address of a halfword or signed transfer (44_single_transfer.md R246). -/
def hdtAddress (s : State) (ix : Index) (rn : Reg) (off : HdtOffset) : Address :=
  addressOf ix (s.rd rn s.setup.off.hdtBase) (hdtOffset s off)

/-- Write-back (44_single_transfer.md R245). -/
def State.writeBack (s : State) (a : Address) (rn : Reg) : State := if a.wb then s.setReg rn a.target else s

/-- A base moved by `offset8` words (49_vfp.md R418). -/
def wordsFrom (up : Bool) (base : Word) (offset8 : BitVec 8) : Word :=
  if up then base + 4 * offset8.setWidth 32 else base - 4 * offset8.setWidth 32

end Sys2Proof.Machine
end

