-- ==== Sys2Proof/Machine/BlockTransfer.lean ====
section
/-!
DEFINITION. Block data transfer (45_block_transfer.md).
-/

namespace Sys2Proof.Machine

/-- The registers of a list, lowest number first (45_block_transfer.md R280). -/
def regsOf (list : BitVec 16) : List Reg :=
  ([0, 1, 2, 3, 4, 5, 6, 7, 8, 9, 10, 11, 12, 13, 14, 15] : List Reg).filter fun r => list.getLsbD r.toNat

/-- The address one word on in the direction of the transfer. -/
def nextWord (up : Bool) (a : Word) : Word := if up then a + 4 else a - 4

/-- The loop of 45_block_transfer.md R280 over the registers in transfer order, then `k` at the final
address. A failing transfer ends it with the transfers before it done (R288). UNVERIFIED, unsafe (log entry 18): decisions
D18 to D20. -/
def blockLoop (before up : Bool) (transfer : Reg → Word → State → Except MemFault State)
    (k : Word → State → Result) : List Reg → Word → State → Result
  | [], a, s => k a s
  | r :: rs, a, s =>
    let t := if before then nextWord up a else a
    match transfer r t s with
    | .ok s' => blockLoop before up transfer k rs (if before then t else nextWord up t) s'
    | .error f => memoryFault f s

/-- One LDM transfer (45_block_transfer.md R281). -/
def ldmTransfer (r : Reg) (a : Word) (s : State) : Except MemFault State :=
  match memRead s a 4 with
  | .ok v => .ok (s.setReg r (BitVec.ofNat 32 v))
  | .error f => .error f

/-- One STM transfer (45_block_transfer.md R282). -/
def stmTransfer (r : Reg) (a : Word) (s : State) : Except MemFault State :=
  memWrite s a 4 (s.rd r s.setup.off.stmStore).toNat

/-- A block transfer (45_block_transfer.md R280, R283). -/
def blockTransfer (before up : Bool) (transfer : Reg → Word → State → Except MemFault State) (wb : Bool)
    (rn : Reg) (list : BitVec 16) (s : State) : Result :=
  blockLoop before up transfer (fun a s' => .next (if wb then s'.setReg rn a else s'))
    (if up then regsOf list else (regsOf list).reverse) (s.rd rn s.setup.off.bdtBase) s

/-- LDMIA (45_block_transfer.md R281, R289). -/
def execLdmia (c : Cond) (wb : Bool) (rn : Reg) (list : BitVec 16) (s : State) : Result :=
  whenCond c s (blockTransfer false true ldmTransfer wb rn list)

/-- LDMIB. -/
def execLdmib (c : Cond) (wb : Bool) (rn : Reg) (list : BitVec 16) (s : State) : Result :=
  whenCond c s (blockTransfer true true ldmTransfer wb rn list)

/-- LDMDA. -/
def execLdmda (c : Cond) (wb : Bool) (rn : Reg) (list : BitVec 16) (s : State) : Result :=
  whenCond c s (blockTransfer false false ldmTransfer wb rn list)

/-- LDMDB. -/
def execLdmdb (c : Cond) (wb : Bool) (rn : Reg) (list : BitVec 16) (s : State) : Result :=
  whenCond c s (blockTransfer true false ldmTransfer wb rn list)

/-- STMIA (45_block_transfer.md R282, R289). -/
def execStmia (c : Cond) (wb : Bool) (rn : Reg) (list : BitVec 16) (s : State) : Result :=
  whenCond c s (blockTransfer false true stmTransfer wb rn list)

/-- STMIB. -/
def execStmib (c : Cond) (wb : Bool) (rn : Reg) (list : BitVec 16) (s : State) : Result :=
  whenCond c s (blockTransfer true true stmTransfer wb rn list)

/-- STMDA. -/
def execStmda (c : Cond) (wb : Bool) (rn : Reg) (list : BitVec 16) (s : State) : Result :=
  whenCond c s (blockTransfer false false stmTransfer wb rn list)

/-- STMDB. -/
def execStmdb (c : Cond) (wb : Bool) (rn : Reg) (list : BitVec 16) (s : State) : Result :=
  whenCond c s (blockTransfer true false stmTransfer wb rn list)

/-- The S bit (45_block_transfer.md R284). -/
def execUnimplBlockTransferSBit (c : Cond) (s : State) : Result := whenCond c s (unimplemented .blockTransferSBit)

end Sys2Proof.Machine
end

