-- ==== Sys2Proof/Machine/Branch.lean ====
section
/-!
DEFINITION. Branch, branch with link, branch and exchange (46_branch.md).
-/

namespace Sys2Proof.Machine

/-- The byte offset of a branch (30_encoding.md R103). -/
def branchOffset (imm24 : BitVec 24) : Word := imm24.signExtend 32 <<< 2

/-- The target of a branch (46_branch.md R300). -/
def branchTarget (s : State) (imm24 : BitVec 24) : Word :=
  s.pc + BitVec.ofNat 32 s.setup.off.branch + branchOffset imm24

/-- B (46_branch.md R300). -/
def execB (c : Cond) (imm24 : BitVec 24) (s : State) : Result :=
  whenCond c s fun s => .next (s.setReg 15 (branchTarget s imm24))

/-- BL (46_branch.md R301). -/
def execBl (c : Cond) (imm24 : BitVec 24) (s : State) : Result :=
  whenCond c s fun s =>
    .next ((s.setReg 14 (s.pc + BitVec.ofNat 32 s.setup.off.link)).setReg 15 (branchTarget s imm24))

/-- BX (46_branch.md R302). -/
def execBx (c : Cond) (rm : Reg) (s : State) : Result :=
  whenCond c s fun s => .next (s.setReg 15 (s.rd rm s.setup.off.bx))

end Sys2Proof.Machine
end

