-- ==== Sys2Proof/Machine/Coprocessor.lean ====
section
/-!
DEFINITION. The coprocessor port (48_coprocessor_dispatch.md): what stands around every coprocessor
instruction.
-/

namespace Sys2Proof.Machine

/-- A coprocessor instruction (48_coprocessor_dispatch.md R331, R337): the engine's condition, then the
attached unit's operation; with nothing attached `NoCoprocessor` (R335). -/
def coprocessor (c : Cond) (s : State) (k : State → Result) : Result :=
  whenCond c s fun s =>
    match s.setup.coproc with
    | .absent => unimplemented .noCoprocessor s
    | .vfp => k s

end Sys2Proof.Machine
end

