-- ==== Sys2Proof/Machine/FpBits.lean ====
section
/-!
DEFINITION. The part of floating point that 49_vfp.md fixes on bit patterns: sign operations (R370, R382,
R383), the class of a pair (R421), and the truncating conversions in range (R422). Values are exact: a
finite value, and infinity in the place above every finite one, is a natural number of units of the
smallest subnormal, with a sign.
-/

namespace Sys2Proof.Machine

/-- A floating-point format: the widths of its exponent and fraction fields. -/
structure FpFormat where
  exp  : Nat
  frac : Nat
deriving DecidableEq, Repr

/-- Width 32 (49_vfp.md R421). -/
def fpSingle : FpFormat := ⟨8, 23⟩

/-- Width 64 (49_vfp.md R421). -/
def fpDouble : FpFormat := ⟨11, 52⟩

/-- The exponent field of a pattern. -/
def fpExponent (f : FpFormat) (b : Nat) : Nat := b / 2 ^ f.frac % 2 ^ f.exp

/-- The fraction field. -/
def fpFraction (f : FpFormat) (b : Nat) : Nat := b % 2 ^ f.frac

/-- The sign bit. -/
def fpSign (f : FpFormat) (b : Nat) : Bool := b / 2 ^ (f.frac + f.exp) % 2 == 1

/-- A NaN: exponent all ones, fraction not zero (49_vfp.md R421). -/
def fpIsNan (f : FpFormat) (b : Nat) : Bool := fpExponent f b == 2 ^ f.exp - 1 && fpFraction f b != 0

/-- The magnitude in units of `2^(1 - bias - frac)`, the smallest subnormal: `f` for exponent 0, else
`(2^frac + f) * 2^(e - 1)`; for an infinity the same expression, which is above every finite magnitude. -/
def fpMagnitude (f : FpFormat) (b : Nat) : Nat :=
  let e := fpExponent f b
  if e = 0 then fpFraction f b else (2 ^ f.frac + fpFraction f b) * 2 ^ (e - 1)

/-- The value in the same units, with its sign. -/
def fpValue (f : FpFormat) (b : Nat) : Int := if fpSign f b then -(fpMagnitude f b : Int) else fpMagnitude f b

/-- The class of a pair of patterns (49_vfp.md R420, R421). -/
inductive FpClass where
  | unordered | lt | eq | gt
deriving DecidableEq, Repr

/-- `class(a, b)` (49_vfp.md R421). -/
def fpClass (f : FpFormat) (a b : Nat) : FpClass :=
  if fpIsNan f a || fpIsNan f b then .unordered
  else if fpValue f a < fpValue f b then .lt
  else if fpValue f a = fpValue f b then .eq
  else .gt

/-- The flags of a class: N, Z, C, V (49_vfp.md R420). -/
def setCompareFlags (k : FpClass) (set : Bool → Bool → Bool → Bool → State) : State :=
  match k with
  | .unordered => set false false false true
  | .lt => set true false false false
  | .eq => set false true true false
  | .gt => set false false true false

/-- The value rounded toward zero: there are `2^(bias - 1 + frac)` units in 1 (49_vfp.md R422). -/
def fpTrunc (f : FpFormat) (b : Nat) : Int :=
  let m := fpMagnitude f b / 2 ^ (2 ^ (f.exp - 1) - 2 + f.frac)
  if fpSign f b then -(m : Int) else m

/-- A truncating conversion where R422 fixes it; `none` for a NaN and a value out of the range `lo`, `hi`. -/
def fpTruncIn (f : FpFormat) (lo hi : Int) (b : Nat) : Option Word :=
  if fpIsNan f b then none
  else if lo ≤ fpTrunc f b ∧ fpTrunc f b ≤ hi then some (BitVec.ofInt 32 (fpTrunc f b))
  else none

/-- `f32_to_u32_z` (49_vfp.md R362, R422). -/
def f32ToU32Z (b : Word) : Word := (fpTruncIn fpSingle 0 (2 ^ 32 - 1) b.toNat).getD (Config.f32ToU32Z b)

/-- `f32_to_s32_z`. -/
def f32ToS32Z (b : Word) : Word := (fpTruncIn fpSingle (-2 ^ 31) (2 ^ 31 - 1) b.toNat).getD (Config.f32ToS32Z b)

/-- `f64_to_u32_z`. -/
def f64ToU32Z (b : Dword) : Word := (fpTruncIn fpDouble 0 (2 ^ 32 - 1) b.toNat).getD (Config.f64ToU32Z b)

/-- `f64_to_s32_z`. -/
def f64ToS32Z (b : Dword) : Word := (fpTruncIn fpDouble (-2 ^ 31) (2 ^ 31 - 1) b.toNat).getD (Config.f64ToS32Z b)

/-- `neg` in single precision: the sign bit flipped (49_vfp.md R370, R383). -/
def neg32 (v : Word) : Word := v ^^^ 0x80000000

/-- `neg` in double precision. -/
def neg64 (v : Dword) : Dword := v ^^^ 0x8000000000000000

/-- The sign bit cleared, single (49_vfp.md R382). -/
def abs32 (v : Word) : Word := v &&& 0x7FFFFFFF

/-- The sign bit cleared, double. -/
def abs64 (v : Dword) : Dword := v &&& 0x7FFFFFFFFFFFFFFF

/-- A compare (49_vfp.md R420): FPSCR bits 31:28 and CPSR bits 31:28, the other bits of both kept. -/
def State.compare (s : State) (k : FpClass) : State :=
  setCompareFlags k fun n z c v => { s.setFlags n z c v with fpscr := withTopBits s.fpscr n z c v }

end Sys2Proof.Machine
end

