-- ==== Sys2Proof/Machine/VfpUnit.lean ====
section
/-!
DEFINITION. The VFP unit (49_vfp.md): what each of its operations does once the word has reached it, with
no condition and no question whether a unit is attached; Vfp.lean and Coprocessor.lean put those around it.
The words without a meaning answer here too, with their faults (R416).
UNVERIFIED, unsafe (log entry 19): much of it is the spec's decisions D26 to D31 and D41.
-/

namespace Sys2Proof.Machine

/-! ## Shapes of data operations -/

/-- `S[d] <- f(S[n], S[m])`. -/
def single3 (f : Word → Word → Word) (d n m : SReg) (s : State) : Result :=
  .next (s.setSReg d (f (s.sreg n) (s.sreg m)))

/-- `D[d] <- f(D[n], D[m])`. -/
def double3 (f : Dword → Dword → Dword) (d n m : DReg) (s : State) : Result :=
  .next (s.setDReg d (f (s.dreg n) (s.dreg m)))

/-- `S[d] <- f(S[d], mul32(S[n], S[m]))` (49_vfp.md R371 to R374). -/
def singleAcc (f : Word → Word → Word) (d n m : SReg) (s : State) : Result :=
  .next (s.setSReg d (f (s.sreg d) (Config.mul32 (s.sreg n) (s.sreg m))))

/-- `D[d] <- f(D[d], mul64(D[n], D[m]))`. -/
def doubleAcc (f : Dword → Dword → Dword) (d n m : DReg) (s : State) : Result :=
  .next (s.setDReg d (f (s.dreg d) (Config.mul64 (s.dreg n) (s.dreg m))))

/-- `S[d] <- f(S[m])`. -/
def singleToSingle (f : Word → Word) (d m : SReg) (s : State) : Result := .next (s.setSReg d (f (s.sreg m)))

/-- `D[d] <- f(D[m])`. -/
def doubleToDouble (f : Dword → Dword) (d m : DReg) (s : State) : Result := .next (s.setDReg d (f (s.dreg m)))

/-- `D[d] <- f(S[m])`. -/
def singleToDouble (f : Word → Dword) (d : DReg) (m : SReg) (s : State) : Result :=
  .next (s.setDReg d (f (s.sreg m)))

/-- `S[d] <- f(D[m])`. -/
def doubleToSingle (f : Dword → Word) (d : SReg) (m : DReg) (s : State) : Result :=
  .next (s.setSReg d (f (s.dreg m)))

/-- `compare(S[d], b)` (49_vfp.md R385, R387). -/
def compareSingle (d : SReg) (b : Word) (s : State) : Result :=
  .next (s.compare (fpClass fpSingle (s.sreg d).toNat b.toNat))

/-- `compare(D[d], b)`. -/
def compareDouble (d : DReg) (b : Dword) (s : State) : Result :=
  .next (s.compare (fpClass fpDouble (s.dreg d).toNat b.toNat))

/-! ## Data operations (R371 to R379) -/

/-- FMACS (R371). -/
def vfpFmacs : SReg → SReg → SReg → State → Result := singleAcc fun acc p => Config.add32 acc p
/-- FMACD (R371). -/
def vfpFmacd : DReg → DReg → DReg → State → Result := doubleAcc fun acc p => Config.add64 acc p
/-- FNMACS (R372). -/
def vfpFnmacs : SReg → SReg → SReg → State → Result := singleAcc fun acc p => Config.add32 acc (neg32 p)
/-- FNMACD (R372). -/
def vfpFnmacd : DReg → DReg → DReg → State → Result := doubleAcc fun acc p => Config.add64 acc (neg64 p)
/-- FMSCS (R373). -/
def vfpFmscs : SReg → SReg → SReg → State → Result := singleAcc fun acc p => Config.add32 (neg32 acc) p
/-- FMSCD (R373). -/
def vfpFmscd : DReg → DReg → DReg → State → Result := doubleAcc fun acc p => Config.add64 (neg64 acc) p
/-- FNMSCS (R374). -/
def vfpFnmscs : SReg → SReg → SReg → State → Result := singleAcc fun acc p => Config.add32 (neg32 acc) (neg32 p)
/-- FNMSCD (R374). -/
def vfpFnmscd : DReg → DReg → DReg → State → Result := doubleAcc fun acc p => Config.add64 (neg64 acc) (neg64 p)
/-- FMULS (R375). -/
def vfpFmuls : SReg → SReg → SReg → State → Result := single3 Config.mul32
/-- FMULD (R375). -/
def vfpFmuld : DReg → DReg → DReg → State → Result := double3 Config.mul64
/-- FNMULS (R376). -/
def vfpFnmuls : SReg → SReg → SReg → State → Result := single3 fun a b => neg32 (Config.mul32 a b)
/-- FNMULD (R376). -/
def vfpFnmuld : DReg → DReg → DReg → State → Result := double3 fun a b => neg64 (Config.mul64 a b)
/-- FADDS (R377). -/
def vfpFadds : SReg → SReg → SReg → State → Result := single3 Config.add32
/-- FADDD (R377). -/
def vfpFaddd : DReg → DReg → DReg → State → Result := double3 Config.add64
/-- FSUBS (R378). -/
def vfpFsubs : SReg → SReg → SReg → State → Result := single3 Config.sub32
/-- FSUBD (R378). -/
def vfpFsubd : DReg → DReg → DReg → State → Result := double3 Config.sub64
/-- FDIVS (R379). -/
def vfpFdivs : SReg → SReg → SReg → State → Result := single3 Config.div32
/-- FDIVD (R379). -/
def vfpFdivd : DReg → DReg → DReg → State → Result := double3 Config.div64

/-! ## Extension operations (R381 to R395) -/

/-- FCPYS (R381). -/
def vfpFcpys : SReg → SReg → State → Result := singleToSingle id
/-- FCPYD (R381). -/
def vfpFcpyd : DReg → DReg → State → Result := doubleToDouble id
/-- FABSS (R382). -/
def vfpFabss : SReg → SReg → State → Result := singleToSingle abs32
/-- FABSD (R382). -/
def vfpFabsd : DReg → DReg → State → Result := doubleToDouble abs64
/-- FNEGS (R383). -/
def vfpFnegs : SReg → SReg → State → Result := singleToSingle neg32
/-- FNEGD (R383). -/
def vfpFnegd : DReg → DReg → State → Result := doubleToDouble neg64
/-- FSQRTS (R384). -/
def vfpFsqrts : SReg → SReg → State → Result := singleToSingle Config.sqrt32
/-- FSQRTD (R384). -/
def vfpFsqrtd : DReg → DReg → State → Result := doubleToDouble Config.sqrt64
/-- FCMPS (R385). -/
def vfpFcmps (d m : SReg) (s : State) : Result := compareSingle d (s.sreg m) s
/-- FCMPD (R385). -/
def vfpFcmpd (d m : DReg) (s : State) : Result := compareDouble d (s.dreg m) s
/-- FCMPES (R386). -/
def vfpFcmpes (d m : SReg) (s : State) : Result := compareSingle d (s.sreg m) s
/-- FCMPED (R386). -/
def vfpFcmped (d m : DReg) (s : State) : Result := compareDouble d (s.dreg m) s
/-- FCMPZS (R387). -/
def vfpFcmpzs (d : SReg) (s : State) : Result := compareSingle d 0 s
/-- FCMPZD (R387). -/
def vfpFcmpzd (d : DReg) (s : State) : Result := compareDouble d 0 s
/-- FCMPEZS (R388). -/
def vfpFcmpezs (d : SReg) (s : State) : Result := compareSingle d 0 s
/-- FCMPEZD (R388). -/
def vfpFcmpezd (d : DReg) (s : State) : Result := compareDouble d 0 s
/-- FCVTDS (R389). -/
def vfpFcvtds : DReg → SReg → State → Result := singleToDouble Config.f32ToF64
/-- FCVTSD (R389). -/
def vfpFcvtsd : SReg → DReg → State → Result := doubleToSingle Config.f64ToF32
/-- FUITOS (R390). -/
def vfpFuitos : SReg → SReg → State → Result := singleToSingle Config.u32ToF32
/-- FUITOD (R390). -/
def vfpFuitod : DReg → SReg → State → Result := singleToDouble Config.u32ToF64
/-- FSITOS (R391). -/
def vfpFsitos : SReg → SReg → State → Result := singleToSingle Config.s32ToF32
/-- FSITOD (R391). -/
def vfpFsitod : DReg → SReg → State → Result := singleToDouble Config.s32ToF64
/-- FTOUIS (R392). -/
def vfpFtouis : SReg → SReg → State → Result := singleToSingle Config.f32ToU32R
/-- FTOUID (R392). -/
def vfpFtouid : SReg → DReg → State → Result := doubleToSingle Config.f64ToU32R
/-- FTOUIZS (R393). -/
def vfpFtouizs : SReg → SReg → State → Result := singleToSingle f32ToU32Z
/-- FTOUIZD (R393). -/
def vfpFtouizd : SReg → DReg → State → Result := doubleToSingle f64ToU32Z
/-- FTOSIS (R394). -/
def vfpFtosis : SReg → SReg → State → Result := singleToSingle Config.f32ToS32R
/-- FTOSID (R394). -/
def vfpFtosid : SReg → DReg → State → Result := doubleToSingle Config.f64ToS32R
/-- FTOSIZS (R395). -/
def vfpFtosizs : SReg → SReg → State → Result := singleToSingle f32ToS32Z
/-- FTOSIZD (R395). -/
def vfpFtosizd : SReg → DReg → State → Result := doubleToSingle f64ToS32Z

/-! ## Register transfers (R396 to R405) -/

/-- `rd(i, OFF_COP)`: a general register as the unit reads it (R403). -/
def copReg (s : State) (r : Reg) : Word := s.rd r s.setup.off.cop

/-- FMSR (R400). -/
def vfpFmsr (n : SReg) (rd : Reg) (s : State) : Result := .next (s.setSReg n (copReg s rd))
/-- FMRS (R401). -/
def vfpFmrs (n : SReg) (rd : Reg) (s : State) : Result := .next (s.setReg rd (s.sreg n))
/-- FMDLR (R402). -/
def vfpFmdlr (n : DReg) (rd : Reg) (s : State) : Result := .next (s.setSReg (lowSlot n) (copReg s rd))
/-- FMRDL (R396). -/
def vfpFmrdl (n : DReg) (rd : Reg) (s : State) : Result := .next (s.setReg rd (s.sreg (lowSlot n)))
/-- FMDHR (R397). -/
def vfpFmdhr (n : DReg) (rd : Reg) (s : State) : Result := .next (s.setSReg (highSlot n) (copReg s rd))
/-- FMRDH (R398). -/
def vfpFmrdh (n : DReg) (rd : Reg) (s : State) : Result := .next (s.setReg rd (s.sreg (highSlot n)))
/-- FMRX: FPSID reads `FPSID_VALUE` (R405), every other system register faults (R404). -/
def vfpFmrx (fn : BitVec 4) (rd : Reg) (s : State) : Result :=
  if fn = 0 then .next (s.setReg rd s.setup.fpsid) else unimplemented .vfpSystemRegister s
/-- FMSTAT (R399). -/
def vfpFmstat (s : State) : Result := unimplemented .vfpSystemRegister s
/-- FMXR (R404). -/
def vfpFmxr (s : State) : Result := unimplemented .vfpSystemRegister s

/-! ## Two-register transfers (R406 to R409) -/

/-- FMSRR (R408). -/
def vfpFmsrr (rn rd : Reg) (m : SReg) (s : State) : Result :=
  if m = 31 then unimplemented .vfpRegister s
  else .next ((s.setSReg m (copReg s rd)).setSReg (m + 1) (copReg s rn))
/-- FMRRS (R409). -/
def vfpFmrrs (rn rd : Reg) (m : SReg) (s : State) : Result :=
  if m = 31 then unimplemented .vfpRegister s
  else .next ((s.setReg rd (s.sreg m)).setReg rn (s.sreg (m + 1)))
/-- FMDRR (R406). -/
def vfpFmdrr (rn rd : Reg) (m : DReg) (s : State) : Result := .next (s.setDReg m (copReg s rn ++ copReg s rd))
/-- FMRRD (R407): the low word, then the high word. -/
def vfpFmrrd (rn rd : Reg) (m : DReg) (s : State) : Result :=
  .next ((s.setReg rd (s.sreg (lowSlot m))).setReg rn (s.sreg (highSlot m)))

/-! ## Loads and stores (R410 to R419) -/

/-- Whether a mode is in `VFP_DT_MODES`; Offset always is (R418). -/
def hasMode (s : State) (m : DtMode) : Bool :=
  match m with
  | .offset => true
  | .ia => s.setup.dtModes.ia
  | .iaw => s.setup.dtModes.iaw
  | .dbw => s.setup.dtModes.dbw

/-- A transfer in a mode; one outside `VFP_DT_MODES` faults first (R418). -/
def inMode (m : DtMode) (k : State → Result) (s : State) : Result :=
  if hasMode s m then k s else unimplemented .vfpAddressingMode s

/-- The address of mode Offset (R418). -/
def offsetAddress (s : State) (u : Bool) (rn : Reg) (offset8 : BitVec 8) : Word := wordsFrom u (copReg s rn) offset8

/-- FLDS (R410). -/
def vfpFlds (u : Bool) (rn : Reg) (d : SReg) (offset8 : BitVec 8) : State → Result :=
  inMode .offset fun s =>
    loading s (offsetAddress s u rn offset8) 4 fun v => .next (s.setSReg d (BitVec.ofNat 32 v))
/-- FSTS (R411). -/
def vfpFsts (u : Bool) (rn : Reg) (d : SReg) (offset8 : BitVec 8) : State → Result :=
  inMode .offset fun s => storing s (offsetAddress s u rn offset8) 4 (s.sreg d).toNat fun s' => .next s'
/-- FLDD (R412): one access of 8 bytes. -/
def vfpFldd (u : Bool) (rn : Reg) (d : DReg) (offset8 : BitVec 8) : State → Result :=
  inMode .offset fun s =>
    loading s (offsetAddress s u rn offset8) 8 fun v => .next (s.setDReg d (BitVec.ofNat 64 v))
/-- FSTD (R413). -/
def vfpFstd (u : Bool) (rn : Reg) (d : DReg) (offset8 : BitVec 8) : State → Result :=
  inMode .offset fun s => storing s (offsetAddress s u rn offset8) 8 (s.dreg d).toNat fun s' => .next s'

/-- The loop of a multiple transfer (R419): `count` transfers of `size` bytes, numbered from `i`, at rising
addresses from `a`, then `k`. A failing transfer ends it with the transfers before it done. -/
def multipleLoop (size : Nat) (transfer : Nat → Word → State → Except MemFault State) (k : State → Result) :
    Nat → Nat → Word → State → Result
  | 0, _, _, s => k s
  | count + 1, i, a, s =>
    match transfer i a s with
    | .ok s' => multipleLoop size transfer k count (i + 1) (a + BitVec.ofNat 32 size) s'
    | .error f => memoryFault f s

/-- FLDM transfer `i`, single: register `f + i` (R414). -/
def loadSingle (f : SReg) (i : Nat) (a : Word) (s : State) : Except MemFault State :=
  match memRead s a 4 with
  | .ok v => .ok (s.setSReg (f + BitVec.ofNat 5 i) (BitVec.ofNat 32 v))
  | .error e => .error e

/-- FLDM transfer `i`, double. -/
def loadDouble (f : DReg) (i : Nat) (a : Word) (s : State) : Except MemFault State :=
  match memRead s a 8 with
  | .ok v => .ok (s.setDReg (f + BitVec.ofNat 4 i) (BitVec.ofNat 64 v))
  | .error e => .error e

/-- FSTM transfer `i`, single (R415). -/
def storeSingle (f : SReg) (i : Nat) (a : Word) (s : State) : Except MemFault State :=
  memWrite s a 4 (s.sreg (f + BitVec.ofNat 5 i)).toNat

/-- FSTM transfer `i`, double. -/
def storeDouble (f : DReg) (i : Nat) (a : Word) (s : State) : Except MemFault State :=
  memWrite s a 8 (s.dreg (f + BitVec.ofNat 4 i)).toNat

/-- Where a multiple transfer starts (R418): below the base by the span in mode DBW. -/
def multipleStart (s : State) (m : DtMode) (rn : Reg) (offset8 : BitVec 8) : Word :=
  match m with
  | .dbw => wordsFrom false (copReg s rn) offset8
  | _ => copReg s rn

/-- The base after a multiple transfer (R418): written in modes IAW and DBW. -/
def multipleWriteBack (m : DtMode) (rn : Reg) (base : Word) (offset8 : BitVec 8) (s : State) : State :=
  match m with
  | .iaw => s.setReg rn (wordsFrom true base offset8)
  | .dbw => s.setReg rn (wordsFrom false base offset8)
  | _ => s

/-- A multiple transfer of `count` registers from number `first` of a file of `file` registers, `offset8`
words in all (R418, R419). -/
def vfpMultiple (m : DtMode) (rn : Reg) (offset8 : BitVec 8) (file first count size : Nat)
    (transfer : Nat → Word → State → Except MemFault State) : State → Result :=
  inMode m fun s =>
    if count = 0 ∨ file < first + count then unimplemented .vfpRegisterList s
    else
      multipleLoop size transfer (fun s' => .next (multipleWriteBack m rn (copReg s rn) offset8 s'))
        count 0 (multipleStart s m rn offset8) s

/-- The mode of an increment-after multiple: IAW with write-back, IA without. -/
def iaMode (w : Bool) : DtMode := if w then .iaw else .ia

/-- The word count of `n` doubles: `offset8 = 2n` (R419). -/
def doubleWords (n : BitVec 7) : BitVec 8 := n ++ (0 : BitVec 1)

/-- FLDMIAS (R414). -/
def vfpFldmias (w : Bool) (rn : Reg) (f : SReg) (n : BitVec 8) : State → Result :=
  vfpMultiple (iaMode w) rn n 32 f.toNat n.toNat 4 (loadSingle f)
/-- FLDMIAD (R414). -/
def vfpFldmiad (w : Bool) (rn : Reg) (f : DReg) (n : BitVec 7) : State → Result :=
  vfpMultiple (iaMode w) rn (doubleWords n) 16 f.toNat n.toNat 8 (loadDouble f)
/-- FSTMIAS (R415). -/
def vfpFstmias (w : Bool) (rn : Reg) (f : SReg) (n : BitVec 8) : State → Result :=
  vfpMultiple (iaMode w) rn n 32 f.toNat n.toNat 4 (storeSingle f)
/-- FSTMIAD (R415). -/
def vfpFstmiad (w : Bool) (rn : Reg) (f : DReg) (n : BitVec 7) : State → Result :=
  vfpMultiple (iaMode w) rn (doubleWords n) 16 f.toNat n.toNat 8 (storeDouble f)
/-- FLDMDBS (R414). -/
def vfpFldmdbs (rn : Reg) (f : SReg) (n : BitVec 8) : State → Result :=
  vfpMultiple .dbw rn n 32 f.toNat n.toNat 4 (loadSingle f)
/-- FLDMDBD (R414). -/
def vfpFldmdbd (rn : Reg) (f : DReg) (n : BitVec 7) : State → Result :=
  vfpMultiple .dbw rn (doubleWords n) 16 f.toNat n.toNat 8 (loadDouble f)
/-- FSTMDBS (R415). -/
def vfpFstmdbs (rn : Reg) (f : SReg) (n : BitVec 8) : State → Result :=
  vfpMultiple .dbw rn n 32 f.toNat n.toNat 4 (storeSingle f)
/-- FSTMDBD (R415). -/
def vfpFstmdbd (rn : Reg) (f : DReg) (n : BitVec 7) : State → Result :=
  vfpMultiple .dbw rn (doubleWords n) 16 f.toNat n.toNat 8 (storeDouble f)

/-! ## Words without a meaning (R416) -/

/-- The fault of a VFP word; for a data transfer in one of the four modes, the mode's own check comes first
(R418). -/
def vfpFault (why : UnimplReason) (b : Body) (s : State) : Result :=
  match Body.isCdt b, Body.mode b with
  | true, some m => inMode m (unimplemented why) s
  | _, _ => unimplemented why s

/-- `VfpOpcode`. -/
def vfpBadOpcode (s : State) : Result := unimplemented .vfpOpcode s
/-- `VfpRegister`. -/
def vfpBadRegister (b : Body) : State → Result := vfpFault .vfpRegister b
/-- `NoCoprocessor` (R361). -/
def vfpOtherNumber (s : State) : Result := unimplemented .noCoprocessor s
/-- `VfpAddressingMode`. -/
def vfpBadMode (s : State) : Result := unimplemented .vfpAddressingMode s
/-- `VfpRegisterList`. -/
def vfpBadList (b : Body) : State → Result := vfpFault .vfpRegisterList b

end Sys2Proof.Machine
end

