-- ==== Sys2Proof/Machine/Vfp.lean ====
section
/-!
DEFINITION. The VFP instructions (49_vfp.md): each the unit's operation behind the coprocessor port.
-/

namespace Sys2Proof.Machine

/-- FMACS (49_vfp.md R371). -/
def execFmacs (c : Cond) (d n m : SReg) (s : State) : Result := coprocessor c s (vfpFmacs d n m)

/-- FMACD (49_vfp.md R371). -/
def execFmacd (c : Cond) (d n m : DReg) (s : State) : Result := coprocessor c s (vfpFmacd d n m)

/-- FNMACS (49_vfp.md R372). -/
def execFnmacs (c : Cond) (d n m : SReg) (s : State) : Result := coprocessor c s (vfpFnmacs d n m)

/-- FNMACD (49_vfp.md R372). -/
def execFnmacd (c : Cond) (d n m : DReg) (s : State) : Result := coprocessor c s (vfpFnmacd d n m)

/-- FMSCS (49_vfp.md R373). -/
def execFmscs (c : Cond) (d n m : SReg) (s : State) : Result := coprocessor c s (vfpFmscs d n m)

/-- FMSCD (49_vfp.md R373). -/
def execFmscd (c : Cond) (d n m : DReg) (s : State) : Result := coprocessor c s (vfpFmscd d n m)

/-- FNMSCS (49_vfp.md R374). -/
def execFnmscs (c : Cond) (d n m : SReg) (s : State) : Result := coprocessor c s (vfpFnmscs d n m)

/-- FNMSCD (49_vfp.md R374). -/
def execFnmscd (c : Cond) (d n m : DReg) (s : State) : Result := coprocessor c s (vfpFnmscd d n m)

/-- FMULS (49_vfp.md R375). -/
def execFmuls (c : Cond) (d n m : SReg) (s : State) : Result := coprocessor c s (vfpFmuls d n m)

/-- FMULD (49_vfp.md R375). -/
def execFmuld (c : Cond) (d n m : DReg) (s : State) : Result := coprocessor c s (vfpFmuld d n m)

/-- FNMULS (49_vfp.md R376). -/
def execFnmuls (c : Cond) (d n m : SReg) (s : State) : Result := coprocessor c s (vfpFnmuls d n m)

/-- FNMULD (49_vfp.md R376). -/
def execFnmuld (c : Cond) (d n m : DReg) (s : State) : Result := coprocessor c s (vfpFnmuld d n m)

/-- FADDS (49_vfp.md R377). -/
def execFadds (c : Cond) (d n m : SReg) (s : State) : Result := coprocessor c s (vfpFadds d n m)

/-- FADDD (49_vfp.md R377). -/
def execFaddd (c : Cond) (d n m : DReg) (s : State) : Result := coprocessor c s (vfpFaddd d n m)

/-- FSUBS (49_vfp.md R378). -/
def execFsubs (c : Cond) (d n m : SReg) (s : State) : Result := coprocessor c s (vfpFsubs d n m)

/-- FSUBD (49_vfp.md R378). -/
def execFsubd (c : Cond) (d n m : DReg) (s : State) : Result := coprocessor c s (vfpFsubd d n m)

/-- FDIVS (49_vfp.md R379). -/
def execFdivs (c : Cond) (d n m : SReg) (s : State) : Result := coprocessor c s (vfpFdivs d n m)

/-- FDIVD (49_vfp.md R379). -/
def execFdivd (c : Cond) (d n m : DReg) (s : State) : Result := coprocessor c s (vfpFdivd d n m)

/-- An unrecognised VFP opcode (49_vfp.md R416). -/
def execUnimplVfpOpcode (c : Cond) (s : State) : Result := coprocessor c s vfpBadOpcode

/-- FCPYS (49_vfp.md R381). -/
def execFcpys (c : Cond) (d m : SReg) (s : State) : Result := coprocessor c s (vfpFcpys d m)

/-- FCPYD (49_vfp.md R381). -/
def execFcpyd (c : Cond) (d m : DReg) (s : State) : Result := coprocessor c s (vfpFcpyd d m)

/-- FABSS (49_vfp.md R382). -/
def execFabss (c : Cond) (d m : SReg) (s : State) : Result := coprocessor c s (vfpFabss d m)

/-- FABSD (49_vfp.md R382). -/
def execFabsd (c : Cond) (d m : DReg) (s : State) : Result := coprocessor c s (vfpFabsd d m)

/-- FNEGS (49_vfp.md R383). -/
def execFnegs (c : Cond) (d m : SReg) (s : State) : Result := coprocessor c s (vfpFnegs d m)

/-- FNEGD (49_vfp.md R383). -/
def execFnegd (c : Cond) (d m : DReg) (s : State) : Result := coprocessor c s (vfpFnegd d m)

/-- FSQRTS (49_vfp.md R384). -/
def execFsqrts (c : Cond) (d m : SReg) (s : State) : Result := coprocessor c s (vfpFsqrts d m)

/-- FSQRTD (49_vfp.md R384). -/
def execFsqrtd (c : Cond) (d m : DReg) (s : State) : Result := coprocessor c s (vfpFsqrtd d m)

/-- FCMPS (49_vfp.md R385). -/
def execFcmps (c : Cond) (d m : SReg) (s : State) : Result := coprocessor c s (vfpFcmps d m)

/-- FCMPD (49_vfp.md R385). -/
def execFcmpd (c : Cond) (d m : DReg) (s : State) : Result := coprocessor c s (vfpFcmpd d m)

/-- FCMPES (49_vfp.md R386). -/
def execFcmpes (c : Cond) (d m : SReg) (s : State) : Result := coprocessor c s (vfpFcmpes d m)

/-- FCMPED (49_vfp.md R386). -/
def execFcmped (c : Cond) (d m : DReg) (s : State) : Result := coprocessor c s (vfpFcmped d m)

/-- FCMPZS (49_vfp.md R387). -/
def execFcmpzs (c : Cond) (d : SReg) (s : State) : Result := coprocessor c s (vfpFcmpzs d)

/-- FCMPZD (49_vfp.md R387). -/
def execFcmpzd (c : Cond) (d : DReg) (s : State) : Result := coprocessor c s (vfpFcmpzd d)

/-- FCMPEZS (49_vfp.md R388). -/
def execFcmpezs (c : Cond) (d : SReg) (s : State) : Result := coprocessor c s (vfpFcmpezs d)

/-- FCMPEZD (49_vfp.md R388). -/
def execFcmpezd (c : Cond) (d : DReg) (s : State) : Result := coprocessor c s (vfpFcmpezd d)

/-- FCVTDS (49_vfp.md R389). -/
def execFcvtds (c : Cond) (d : DReg) (m : SReg) (s : State) : Result := coprocessor c s (vfpFcvtds d m)

/-- FCVTSD (49_vfp.md R389). -/
def execFcvtsd (c : Cond) (d : SReg) (m : DReg) (s : State) : Result := coprocessor c s (vfpFcvtsd d m)

/-- FUITOS (49_vfp.md R390). -/
def execFuitos (c : Cond) (d m : SReg) (s : State) : Result := coprocessor c s (vfpFuitos d m)

/-- FUITOD (49_vfp.md R390). -/
def execFuitod (c : Cond) (d : DReg) (m : SReg) (s : State) : Result := coprocessor c s (vfpFuitod d m)

/-- FSITOS (49_vfp.md R391). -/
def execFsitos (c : Cond) (d m : SReg) (s : State) : Result := coprocessor c s (vfpFsitos d m)

/-- FSITOD (49_vfp.md R391). -/
def execFsitod (c : Cond) (d : DReg) (m : SReg) (s : State) : Result := coprocessor c s (vfpFsitod d m)

/-- FTOUIS (49_vfp.md R392). -/
def execFtouis (c : Cond) (d m : SReg) (s : State) : Result := coprocessor c s (vfpFtouis d m)

/-- FTOUID (49_vfp.md R392). -/
def execFtouid (c : Cond) (d : SReg) (m : DReg) (s : State) : Result := coprocessor c s (vfpFtouid d m)

/-- FTOUIZS (49_vfp.md R393). -/
def execFtouizs (c : Cond) (d m : SReg) (s : State) : Result := coprocessor c s (vfpFtouizs d m)

/-- FTOUIZD (49_vfp.md R393). -/
def execFtouizd (c : Cond) (d : SReg) (m : DReg) (s : State) : Result := coprocessor c s (vfpFtouizd d m)

/-- FTOSIS (49_vfp.md R394). -/
def execFtosis (c : Cond) (d m : SReg) (s : State) : Result := coprocessor c s (vfpFtosis d m)

/-- FTOSID (49_vfp.md R394). -/
def execFtosid (c : Cond) (d : SReg) (m : DReg) (s : State) : Result := coprocessor c s (vfpFtosid d m)

/-- FTOSIZS (49_vfp.md R395). -/
def execFtosizs (c : Cond) (d m : SReg) (s : State) : Result := coprocessor c s (vfpFtosizs d m)

/-- FTOSIZD (49_vfp.md R395). -/
def execFtosizd (c : Cond) (d : SReg) (m : DReg) (s : State) : Result := coprocessor c s (vfpFtosizd d m)

/-- A VFP register field without a register (49_vfp.md R364, R408). -/
def execUnimplVfpRegister (c : Cond) (b : Body) (s : State) : Result := coprocessor c s (vfpBadRegister b)

/-- A coprocessor number that is not the VFP unit's (49_vfp.md R361). -/
def execUnimplNoCoprocessor (c : Cond) (s : State) : Result := coprocessor c s vfpOtherNumber

/-- FMSR (49_vfp.md R400). -/
def execFmsr (c : Cond) (n : SReg) (rd : Reg) (s : State) : Result := coprocessor c s (vfpFmsr n rd)

/-- FMRS (49_vfp.md R401). -/
def execFmrs (c : Cond) (n : SReg) (rd : Reg) (s : State) : Result := coprocessor c s (vfpFmrs n rd)

/-- FMDLR (49_vfp.md R402). -/
def execFmdlr (c : Cond) (n : DReg) (rd : Reg) (s : State) : Result := coprocessor c s (vfpFmdlr n rd)

/-- FMRDL (49_vfp.md R396). -/
def execFmrdl (c : Cond) (n : DReg) (rd : Reg) (s : State) : Result := coprocessor c s (vfpFmrdl n rd)

/-- FMDHR (49_vfp.md R397). -/
def execFmdhr (c : Cond) (n : DReg) (rd : Reg) (s : State) : Result := coprocessor c s (vfpFmdhr n rd)

/-- FMRDH (49_vfp.md R398). -/
def execFmrdh (c : Cond) (n : DReg) (rd : Reg) (s : State) : Result := coprocessor c s (vfpFmrdh n rd)

/-- FMRX (49_vfp.md R404, R405). -/
def execFmrx (c : Cond) (fn : BitVec 4) (rd : Reg) (s : State) : Result := coprocessor c s (vfpFmrx fn rd)

/-- FMSTAT (49_vfp.md R399). -/
def execFmstat (c : Cond) (s : State) : Result := coprocessor c s vfpFmstat

/-- FMXR (49_vfp.md R404). -/
def execFmxr (c : Cond) (s : State) : Result := coprocessor c s vfpFmxr

/-- FMSRR (49_vfp.md R408). -/
def execFmsrr (c : Cond) (rn rd : Reg) (m : SReg) (s : State) : Result := coprocessor c s (vfpFmsrr rn rd m)

/-- FMRRS (49_vfp.md R409). -/
def execFmrrs (c : Cond) (rn rd : Reg) (m : SReg) (s : State) : Result := coprocessor c s (vfpFmrrs rn rd m)

/-- FMDRR (49_vfp.md R406). -/
def execFmdrr (c : Cond) (rn rd : Reg) (m : DReg) (s : State) : Result := coprocessor c s (vfpFmdrr rn rd m)

/-- FMRRD (49_vfp.md R407). -/
def execFmrrd (c : Cond) (rn rd : Reg) (m : DReg) (s : State) : Result := coprocessor c s (vfpFmrrd rn rd m)

/-- FLDS (49_vfp.md R410). -/
def execFlds (c : Cond) (u : Bool) (rn : Reg) (d : SReg) (offset8 : BitVec 8) (s : State) : Result :=
  coprocessor c s (vfpFlds u rn d offset8)

/-- FSTS (49_vfp.md R411). -/
def execFsts (c : Cond) (u : Bool) (rn : Reg) (d : SReg) (offset8 : BitVec 8) (s : State) : Result :=
  coprocessor c s (vfpFsts u rn d offset8)

/-- FLDD (49_vfp.md R412). -/
def execFldd (c : Cond) (u : Bool) (rn : Reg) (d : DReg) (offset8 : BitVec 8) (s : State) : Result :=
  coprocessor c s (vfpFldd u rn d offset8)

/-- FSTD (49_vfp.md R413). -/
def execFstd (c : Cond) (u : Bool) (rn : Reg) (d : DReg) (offset8 : BitVec 8) (s : State) : Result :=
  coprocessor c s (vfpFstd u rn d offset8)

/-- A VFP transfer submode without a meaning (49_vfp.md R416, R418). -/
def execUnimplVfpAddressingMode (c : Cond) (s : State) : Result := coprocessor c s vfpBadMode

/-- An empty VFP register list (49_vfp.md R419). -/
def execUnimplVfpRegisterList (c : Cond) (b : Body) (s : State) : Result := coprocessor c s (vfpBadList b)

/-- FLDMIAS (49_vfp.md R414). -/
def execFldmias (c : Cond) (w : Bool) (rn : Reg) (f : SReg) (n : BitVec 8) (s : State) : Result :=
  coprocessor c s (vfpFldmias w rn f n)

/-- FLDMIAD (49_vfp.md R414). -/
def execFldmiad (c : Cond) (w : Bool) (rn : Reg) (f : DReg) (n : BitVec 7) (s : State) : Result :=
  coprocessor c s (vfpFldmiad w rn f n)

/-- FSTMIAS (49_vfp.md R415). -/
def execFstmias (c : Cond) (w : Bool) (rn : Reg) (f : SReg) (n : BitVec 8) (s : State) : Result :=
  coprocessor c s (vfpFstmias w rn f n)

/-- FSTMIAD (49_vfp.md R415). -/
def execFstmiad (c : Cond) (w : Bool) (rn : Reg) (f : DReg) (n : BitVec 7) (s : State) : Result :=
  coprocessor c s (vfpFstmiad w rn f n)

/-- FLDMDBS (49_vfp.md R414). -/
def execFldmdbs (c : Cond) (rn : Reg) (f : SReg) (n : BitVec 8) (s : State) : Result :=
  coprocessor c s (vfpFldmdbs rn f n)

/-- FLDMDBD (49_vfp.md R414). -/
def execFldmdbd (c : Cond) (rn : Reg) (f : DReg) (n : BitVec 7) (s : State) : Result :=
  coprocessor c s (vfpFldmdbd rn f n)

/-- FSTMDBS (49_vfp.md R415). -/
def execFstmdbs (c : Cond) (rn : Reg) (f : SReg) (n : BitVec 8) (s : State) : Result :=
  coprocessor c s (vfpFstmdbs rn f n)

/-- FSTMDBD (49_vfp.md R415). -/
def execFstmdbd (c : Cond) (rn : Reg) (f : DReg) (n : BitVec 7) (s : State) : Result :=
  coprocessor c s (vfpFstmdbd rn f n)

end Sys2Proof.Machine
end

