-- ==== Sys2Proof/Machine/CoprocessorForward.lean ====
section
/-!
DEFINITION. The generic coprocessor instructions (48_coprocessor_dispatch.md R332 to R334): the whole word
is forwarded to the attached unit.
-/

namespace Sys2Proof.Machine

/-- The VFP unit on an instruction of its own list (49_vfp.md R361). `decodeVfp` answers no instruction of
the engine's list; for one the unit has no opcode. -/
def vfpUnit (i : Instr) (s : State) : Result :=
  match i with
  | .fmacs _ d n m => vfpFmacs d n m s
  | .fmacd _ d n m => vfpFmacd d n m s
  | .fnmacs _ d n m => vfpFnmacs d n m s
  | .fnmacd _ d n m => vfpFnmacd d n m s
  | .fmscs _ d n m => vfpFmscs d n m s
  | .fmscd _ d n m => vfpFmscd d n m s
  | .fnmscs _ d n m => vfpFnmscs d n m s
  | .fnmscd _ d n m => vfpFnmscd d n m s
  | .fmuls _ d n m => vfpFmuls d n m s
  | .fmuld _ d n m => vfpFmuld d n m s
  | .fnmuls _ d n m => vfpFnmuls d n m s
  | .fnmuld _ d n m => vfpFnmuld d n m s
  | .fadds _ d n m => vfpFadds d n m s
  | .faddd _ d n m => vfpFaddd d n m s
  | .fsubs _ d n m => vfpFsubs d n m s
  | .fsubd _ d n m => vfpFsubd d n m s
  | .fdivs _ d n m => vfpFdivs d n m s
  | .fdivd _ d n m => vfpFdivd d n m s
  | .unimplVfpOpcode _ _ => vfpBadOpcode s
  | .fcpys _ d m => vfpFcpys d m s
  | .fcpyd _ d m => vfpFcpyd d m s
  | .fabss _ d m => vfpFabss d m s
  | .fabsd _ d m => vfpFabsd d m s
  | .fnegs _ d m => vfpFnegs d m s
  | .fnegd _ d m => vfpFnegd d m s
  | .fsqrts _ d m => vfpFsqrts d m s
  | .fsqrtd _ d m => vfpFsqrtd d m s
  | .fcmps _ d m => vfpFcmps d m s
  | .fcmpd _ d m => vfpFcmpd d m s
  | .fcmpes _ d m => vfpFcmpes d m s
  | .fcmped _ d m => vfpFcmped d m s
  | .fcmpzs _ d => vfpFcmpzs d s
  | .fcmpzd _ d => vfpFcmpzd d s
  | .fcmpezs _ d => vfpFcmpezs d s
  | .fcmpezd _ d => vfpFcmpezd d s
  | .fcvtds _ d m => vfpFcvtds d m s
  | .fcvtsd _ d m => vfpFcvtsd d m s
  | .fuitos _ d m => vfpFuitos d m s
  | .fuitod _ d m => vfpFuitod d m s
  | .fsitos _ d m => vfpFsitos d m s
  | .fsitod _ d m => vfpFsitod d m s
  | .ftouis _ d m => vfpFtouis d m s
  | .ftouid _ d m => vfpFtouid d m s
  | .ftouizs _ d m => vfpFtouizs d m s
  | .ftouizd _ d m => vfpFtouizd d m s
  | .ftosis _ d m => vfpFtosis d m s
  | .ftosid _ d m => vfpFtosid d m s
  | .ftosizs _ d m => vfpFtosizs d m s
  | .ftosizd _ d m => vfpFtosizd d m s
  | .unimplVfpRegister _ b => vfpBadRegister b s
  | .unimplNoCoprocessor _ _ => vfpOtherNumber s
  | .fmsr _ n rd => vfpFmsr n rd s
  | .fmrs _ n rd => vfpFmrs n rd s
  | .fmdlr _ n rd => vfpFmdlr n rd s
  | .fmrdl _ n rd => vfpFmrdl n rd s
  | .fmdhr _ n rd => vfpFmdhr n rd s
  | .fmrdh _ n rd => vfpFmrdh n rd s
  | .fmrx _ fn rd => vfpFmrx fn rd s
  | .fmstat _ => vfpFmstat s
  | .fmxr _ _ _ => vfpFmxr s
  | .fmsrr _ rn rd m => vfpFmsrr rn rd m s
  | .fmrrs _ rn rd m => vfpFmrrs rn rd m s
  | .fmdrr _ rn rd m => vfpFmdrr rn rd m s
  | .fmrrd _ rn rd m => vfpFmrrd rn rd m s
  | .flds _ u rn d offset8 => vfpFlds u rn d offset8 s
  | .fsts _ u rn d offset8 => vfpFsts u rn d offset8 s
  | .fldd _ u rn d offset8 => vfpFldd u rn d offset8 s
  | .fstd _ u rn d offset8 => vfpFstd u rn d offset8 s
  | .unimplVfpAddressingMode _ _ => vfpBadMode s
  | .unimplVfpRegisterList _ b => vfpBadList b s
  | .fldmias _ w rn f n => vfpFldmias w rn f n s
  | .fldmiad _ w rn f n => vfpFldmiad w rn f n s
  | .fstmias _ w rn f n => vfpFstmias w rn f n s
  | .fstmiad _ w rn f n => vfpFstmiad w rn f n s
  | .fldmdbs _ rn f n => vfpFldmdbs rn f n s
  | .fldmdbd _ rn f n => vfpFldmdbd rn f n s
  | .fstmdbs _ rn f n => vfpFstmdbs rn f n s
  | .fstmdbd _ rn f n => vfpFstmdbd rn f n s
  | _ => unimplemented .vfpOpcode s

/-- `data_transfer(w)`, `data_operation(w)`, `register_transfer(w)` (48_coprocessor_dispatch.md R330): the
unit's own sub-decoding of the whole word, then its operation. -/
def forward (w : Word) (s : State) : Result := vfpUnit (decodeVfp w) s

/-- LDC (48_coprocessor_dispatch.md R332). -/
def execLdc (c : Cond) (p u n w : Bool) (rn crd cpNum : BitVec 4) (offset8 : BitVec 8) (s : State) :
    Result :=
  coprocessor c s (forward (encode (.ldc c p u n w rn crd cpNum offset8)))

/-- STC (48_coprocessor_dispatch.md R332). -/
def execStc (c : Cond) (p u n w : Bool) (rn crd cpNum : BitVec 4) (offset8 : BitVec 8) (s : State) :
    Result :=
  coprocessor c s (forward (encode (.stc c p u n w rn crd cpNum offset8)))

/-- CDP (48_coprocessor_dispatch.md R333). -/
def execCdp (c : Cond) (cpOpc crn crd cpNum : BitVec 4) (cp : BitVec 3) (crm : BitVec 4) (s : State) :
    Result :=
  coprocessor c s (forward (encode (.cdp c cpOpc crn crd cpNum cp crm)))

/-- MCR (48_coprocessor_dispatch.md R334). -/
def execMcr (c : Cond) (cpOpc : BitVec 3) (crn rd cpNum : BitVec 4) (cp : BitVec 3) (crm : BitVec 4) (s : State) :
    Result :=
  coprocessor c s (forward (encode (.mcr c cpOpc crn rd cpNum cp crm)))

/-- MRC (48_coprocessor_dispatch.md R334). -/
def execMrc (c : Cond) (cpOpc : BitVec 3) (crn rd cpNum : BitVec 4) (cp : BitVec 3) (crm : BitVec 4) (s : State) :
    Result :=
  coprocessor c s (forward (encode (.mrc c cpOpc crn rd cpNum cp crm)))

end Sys2Proof.Machine
end

