-- ==== Sys2Proof/Machine/DataProcessing.lean ====
section
/-!
DEFINITION. Data processing (42_data_processing.md): the sixteen opcodes, and the three fault rows of the
format.
-/

namespace Sys2Proof.Machine

/-- A data-processing instruction that writes `Rd` (42_data_processing.md R180): `alu` computes on
operand2's value and carry-out. With `S = 1` a destination of 15 is turned away (R184). -/
def dpWrite (c : Cond) (sf : Bool) (rd : Reg) (o : Operand2) (alu : Shifted → AluOut) (s : State) : Result :=
  whenCond c s fun s =>
    if sf && rd == 15 then unimplemented .flagsWithPcDest s
    else
      let r := alu (operand2 s o)
      let s' := s.setReg rd r.result
      .next (if sf then s'.setAluFlags r else s')

/-- A data-processing instruction that writes the flags only (42_data_processing.md R180). -/
def dpCompare (c : Cond) (o : Operand2) (alu : Shifted → AluOut) (s : State) : Result :=
  whenCond c s fun s => .next (s.setAluFlags (alu (operand2 s o)))

/-- The first operand (41_shifter.md R150, `OFF_DP_RN`). -/
def operand1 (s : State) (rn : Reg) : Word := s.rd rn s.setup.off.dpRn

/-- AND (42_data_processing.md R190). -/
def execAnd (c : Cond) (sf : Bool) (rn rd : Reg) (o : Operand2) (s : State) : Result :=
  dpWrite c sf rd o (fun op2 => logicOut (operand1 s rn &&& op2.value) op2.cout s.flagV) s

/-- EOR (42_data_processing.md R191). -/
def execEor (c : Cond) (sf : Bool) (rn rd : Reg) (o : Operand2) (s : State) : Result :=
  dpWrite c sf rd o (fun op2 => logicOut (operand1 s rn ^^^ op2.value) op2.cout s.flagV) s

/-- SUB (42_data_processing.md R192). -/
def execSub (c : Cond) (sf : Bool) (rn rd : Reg) (o : Operand2) (s : State) : Result :=
  dpWrite c sf rd o (fun op2 => subOut (operand1 s rn) op2.value true) s

/-- RSB (42_data_processing.md R193). -/
def execRsb (c : Cond) (sf : Bool) (rn rd : Reg) (o : Operand2) (s : State) : Result :=
  dpWrite c sf rd o (fun op2 => subOut op2.value (operand1 s rn) true) s

/-- ADD (42_data_processing.md R194). -/
def execAdd (c : Cond) (sf : Bool) (rn rd : Reg) (o : Operand2) (s : State) : Result :=
  dpWrite c sf rd o (fun op2 => addOut (operand1 s rn) op2.value false) s

/-- ADC (42_data_processing.md R195). The carry-in of ADC, SBC and RSC: UNVERIFIED, unsafe (log entry 17). -/
def execAdc (c : Cond) (sf : Bool) (rn rd : Reg) (o : Operand2) (s : State) : Result :=
  dpWrite c sf rd o (fun op2 => addOut (operand1 s rn) op2.value s.flagC) s

/-- SBC (42_data_processing.md R196). -/
def execSbc (c : Cond) (sf : Bool) (rn rd : Reg) (o : Operand2) (s : State) : Result :=
  dpWrite c sf rd o (fun op2 => subOut (operand1 s rn) op2.value s.flagC) s

/-- RSC (42_data_processing.md R197). -/
def execRsc (c : Cond) (sf : Bool) (rn rd : Reg) (o : Operand2) (s : State) : Result :=
  dpWrite c sf rd o (fun op2 => subOut op2.value (operand1 s rn) s.flagC) s

/-- TST (42_data_processing.md R198). -/
def execTst (c : Cond) (rn : Reg) (o : Operand2) (s : State) : Result :=
  dpCompare c o (fun op2 => logicOut (operand1 s rn &&& op2.value) op2.cout s.flagV) s

/-- TEQ (42_data_processing.md R199). -/
def execTeq (c : Cond) (rn : Reg) (o : Operand2) (s : State) : Result :=
  dpCompare c o (fun op2 => logicOut (operand1 s rn ^^^ op2.value) op2.cout s.flagV) s

/-- CMP (42_data_processing.md R200). -/
def execCmp (c : Cond) (rn : Reg) (o : Operand2) (s : State) : Result :=
  dpCompare c o (fun op2 => subOut (operand1 s rn) op2.value true) s

/-- CMN (42_data_processing.md R201). -/
def execCmn (c : Cond) (rn : Reg) (o : Operand2) (s : State) : Result :=
  dpCompare c o (fun op2 => addOut (operand1 s rn) op2.value false) s

/-- ORR (42_data_processing.md R202). -/
def execOrr (c : Cond) (sf : Bool) (rn rd : Reg) (o : Operand2) (s : State) : Result :=
  dpWrite c sf rd o (fun op2 => logicOut (operand1 s rn ||| op2.value) op2.cout s.flagV) s

/-- MOV (42_data_processing.md R203). -/
def execMov (c : Cond) (sf : Bool) (rd : Reg) (o : Operand2) (s : State) : Result :=
  dpWrite c sf rd o (fun op2 => logicOut op2.value op2.cout s.flagV) s

/-- BIC (42_data_processing.md R204). -/
def execBic (c : Cond) (sf : Bool) (rn rd : Reg) (o : Operand2) (s : State) : Result :=
  dpWrite c sf rd o (fun op2 => logicOut (operand1 s rn &&& ~~~op2.value) op2.cout s.flagV) s

/-- MVN (42_data_processing.md R205). -/
def execMvn (c : Cond) (sf : Bool) (rd : Reg) (o : Operand2) (s : State) : Result :=
  dpWrite c sf rd o (fun op2 => logicOut (~~~op2.value) op2.cout s.flagV) s

/-- Opcode 8 to 11 with `S = 0` (42_data_processing.md R185). -/
def execUnimplPsrTransfer (c : Cond) (s : State) : Result := whenCond c s (unimplemented .psrTransfer)

/-- `S = 1` with `Rd = 15` (42_data_processing.md R184). -/
def execUnimplFlagsWithPcDest (c : Cond) (s : State) : Result := whenCond c s (unimplemented .flagsWithPcDest)

/-- Register shift form with bit 7 = 1 (30_encoding.md R105). -/
def execUnimplBadShiftEncoding (c : Cond) (s : State) : Result := whenCond c s (unimplemented .badShiftEncoding)

end Sys2Proof.Machine
end

