-- ==== Sys2Proof/Machine/Multiply.lean ====
section
/-!
DEFINITION. Multiply and multiply-long (43_multiply.md).
-/

namespace Sys2Proof.Machine

/-- A multiply operand (43_multiply.md R220). -/
def mulOperand (s : State) (r : Reg) : Word := s.rd r s.setup.off.mul

/-- The accumulator `RdHi :: RdLo` of a long multiply (43_multiply.md R224, R230). -/
def mulAcc (s : State) (hi lo : Reg) : Dword := mulOperand s hi ++ mulOperand s lo

/-- A 32-bit product written; the flags are skipped for a destination of 15 (43_multiply.md R226, R227).
UNVERIFIED, unsafe (log entry 17): decision D13. -/
def mulWrite (sf : Bool) (rd : Reg) (result : Word) (s : State) : State :=
  let s' := s.setReg rd result
  if sf && rd != 15 then s'.setNZ result.msb (result == 0) else s'

/-- A 64-bit product written, the low word first; the flags are skipped for a destination of 15
(43_multiply.md R223, R226). -/
def mulWriteLong (sf : Bool) (hi lo : Reg) (p : Dword) (s : State) : State :=
  let s' := (s.setReg lo (p.extractLsb' 0 32)).setReg hi (p.extractLsb' 32 32)
  if sf && hi != 15 && lo != 15 then s'.setNZ p.msb (p == 0) else s'

/-- The unsigned 64-bit product (43_multiply.md R223, R228). -/
def umulProduct (s : State) (rm rs : Reg) : Dword :=
  BitVec.ofNat 64 ((mulOperand s rm).toNat * (mulOperand s rs).toNat)

/-- The signed 64-bit product (43_multiply.md R225, R228). -/
def smulProduct (s : State) (rm rs : Reg) : Dword :=
  BitVec.ofInt 64 ((mulOperand s rm).toInt * (mulOperand s rs).toInt)

/-- MUL (43_multiply.md R221). -/
def execMul (c : Cond) (sf : Bool) (rd rs rm : Reg) (s : State) : Result :=
  whenCond c s fun s => .next (mulWrite sf rd (mulOperand s rm * mulOperand s rs) s)

/-- MLA (43_multiply.md R222). -/
def execMla (c : Cond) (sf : Bool) (rd rn rs rm : Reg) (s : State) : Result :=
  whenCond c s fun s => .next (mulWrite sf rd (mulOperand s rm * mulOperand s rs + mulOperand s rn) s)

/-- UMULL (43_multiply.md R223). -/
def execUmull (c : Cond) (sf : Bool) (hi lo rs rm : Reg) (s : State) : Result :=
  whenCond c s fun s => .next (mulWriteLong sf hi lo (umulProduct s rm rs) s)

/-- UMLAL (43_multiply.md R224). -/
def execUmlal (c : Cond) (sf : Bool) (hi lo rs rm : Reg) (s : State) : Result :=
  whenCond c s fun s => .next (mulWriteLong sf hi lo (umulProduct s rm rs + mulAcc s hi lo) s)

/-- SMULL (43_multiply.md R225). -/
def execSmull (c : Cond) (sf : Bool) (hi lo rs rm : Reg) (s : State) : Result :=
  whenCond c s fun s => .next (mulWriteLong sf hi lo (smulProduct s rm rs) s)

/-- SMLAL (43_multiply.md R230). -/
def execSmlal (c : Cond) (sf : Bool) (hi lo rs rm : Reg) (s : State) : Result :=
  whenCond c s fun s => .next (mulWriteLong sf hi lo (smulProduct s rm rs + mulAcc s hi lo) s)

end Sys2Proof.Machine
end

