-- ==== Sys2Proof/Machine/SingleTransfer.lean ====
section
/-!
DEFINITION. Single, halfword and signed transfers, and swap (44_single_transfer.md).
-/

namespace Sys2Proof.Machine

/-- A load (44_single_transfer.md R245): the access, the write-back, then the destination. -/
def loadReg (a : Address) (n : Nat) (rn rd : Reg) (value : Nat → Word) (s : State) : Result :=
  loading s a.addr n fun v => .next ((s.writeBack a rn).setReg rd (value v))

/-- A store (44_single_transfer.md R245): `v` was read before; the access, then the write-back. -/
def storeReg (a : Address) (n : Nat) (rn : Reg) (v : Word) (s : State) : Result :=
  storing s a.addr n v.toNat fun s' => .next (s'.writeBack a rn)

/-- An unsigned byte, halfword or word (`zext_N`, 00_scope.md R5). -/
def zeroExtended (v : Nat) : Word := BitVec.ofNat 32 v

/-- `sext_8` (00_scope.md R5). -/
def signExtended8 (v : Nat) : Word := (BitVec.ofNat 8 v).signExtend 32

/-- `sext_16`. -/
def signExtended16 (v : Nat) : Word := (BitVec.ofNat 16 v).signExtend 32

/-- LDR (44_single_transfer.md R241). -/
def execLdr (c : Cond) (ix : Index) (rn rd : Reg) (off : SdtOffset) (s : State) : Result :=
  whenCond c s fun s => loadReg (sdtAddress s ix rn off) 4 rn rd zeroExtended s

/-- STR (44_single_transfer.md R242). -/
def execStr (c : Cond) (ix : Index) (rn rd : Reg) (off : SdtOffset) (s : State) : Result :=
  whenCond c s fun s => storeReg (sdtAddress s ix rn off) 4 rn (s.rd rd s.setup.off.sdtStore) s

/-- LDRB (44_single_transfer.md R243). -/
def execLdrb (c : Cond) (ix : Index) (rn rd : Reg) (off : SdtOffset) (s : State) : Result :=
  whenCond c s fun s => loadReg (sdtAddress s ix rn off) 1 rn rd zeroExtended s

/-- STRB (44_single_transfer.md R244): the port stores the low byte. -/
def execStrb (c : Cond) (ix : Index) (rn rd : Reg) (off : SdtOffset) (s : State) : Result :=
  whenCond c s fun s => storeReg (sdtAddress s ix rn off) 1 rn (s.rd rd s.setup.off.sdtStore) s

/-- LDRH (44_single_transfer.md R247). -/
def execLdrh (c : Cond) (ix : Index) (rn rd : Reg) (off : HdtOffset) (s : State) : Result :=
  whenCond c s fun s => loadReg (hdtAddress s ix rn off) 2 rn rd zeroExtended s

/-- STRH (44_single_transfer.md R248): the port stores the low halfword. -/
def execStrh (c : Cond) (ix : Index) (rn rd : Reg) (off : HdtOffset) (s : State) : Result :=
  whenCond c s fun s => storeReg (hdtAddress s ix rn off) 2 rn (s.rd rd s.setup.off.hdtStore) s

/-- LDRSB (44_single_transfer.md R249). -/
def execLdrsb (c : Cond) (ix : Index) (rn rd : Reg) (off : HdtOffset) (s : State) : Result :=
  whenCond c s fun s => loadReg (hdtAddress s ix rn off) 1 rn rd signExtended8 s

/-- LDRSH (44_single_transfer.md R250). -/
def execLdrsh (c : Cond) (ix : Index) (rn rd : Reg) (off : HdtOffset) (s : State) : Result :=
  whenCond c s fun s => loadReg (hdtAddress s ix rn off) 2 rn rd signExtended16 s

/-- `S:H = 00` (44_single_transfer.md R251). -/
def execUnimplHalfwordSH00 (c : Cond) (s : State) : Result := whenCond c s (unimplemented .halfwordSH00)

/-- `L = 0`, `S = 1` (44_single_transfer.md R251). -/
def execUnimplHalfwordSignedStore (c : Cond) (s : State) : Result :=
  whenCond c s (unimplemented .halfwordSignedStore)

/-- A swap of `n` bytes (44_single_transfer.md R252, R253): read, write, then the destination.
UNVERIFIED, unsafe (log entry 17): the spec supplies the operation from general knowledge. -/
def swap (n : Nat) (rn rd rm : Reg) (s : State) : Result :=
  let addr := s.rd rn s.setup.off.swp
  let src := s.rd rm s.setup.off.swp
  loading s addr n fun tmp => storing s addr n src.toNat fun s' => .next (s'.setReg rd (zeroExtended tmp))

/-- SWP (44_single_transfer.md R252). -/
def execSwp (c : Cond) (rn rd rm : Reg) (s : State) : Result := whenCond c s (swap 4 rn rd rm)

/-- SWPB (44_single_transfer.md R253). -/
def execSwpb (c : Cond) (rn rd rm : Reg) (s : State) : Result := whenCond c s (swap 1 rn rd rm)

end Sys2Proof.Machine
end

