-- ==== Sys2Proof/Machine/System.lean ====
section
/-!
DEFINITION. Software interrupt and the undefined format (47_system.md).
-/

namespace Sys2Proof.Machine

/-- SWI (47_system.md R320): the run ends with `SWI_MAP(comment)`. -/
def execSwi (c : Cond) (comment : BitVec 24) (s : State) : Result := whenCond c s (exit (Config.swiMap comment))

/-- The undefined format, whatever the condition (47_system.md R321, 40_decode.md R126). -/
def execUnd (s : State) : Result := undefined s

end Sys2Proof.Machine
end

