-- ==== Sys2Proof/Machine/Dispatch.lean ====
section
/-!
DEFINITION. The dispatch: one arm per instruction, each a call of its meaning.
-/

namespace Sys2Proof.Machine

def exec (i : Instr) (s : State) : Host.Outcome State Fault Refusal :=
  match i with
  | .bx c rm => Sys2Proof.Machine.execBx c rm s
  | .swp c rn rd rm => Sys2Proof.Machine.execSwp c rn rd rm s
  | .swpb c rn rd rm => Sys2Proof.Machine.execSwpb c rn rd rm s
  | .mul c sf rd rs rm => Sys2Proof.Machine.execMul c sf rd rs rm s
  | .mla c sf rd rn rs rm => Sys2Proof.Machine.execMla c sf rd rn rs rm s
  | .umull c sf rdHi rdLo rs rm => Sys2Proof.Machine.execUmull c sf rdHi rdLo rs rm s
  | .umlal c sf rdHi rdLo rs rm => Sys2Proof.Machine.execUmlal c sf rdHi rdLo rs rm s
  | .smull c sf rdHi rdLo rs rm => Sys2Proof.Machine.execSmull c sf rdHi rdLo rs rm s
  | .smlal c sf rdHi rdLo rs rm => Sys2Proof.Machine.execSmlal c sf rdHi rdLo rs rm s
  | .unimplHalfwordSH00 c _ => Sys2Proof.Machine.execUnimplHalfwordSH00 c s
  | .unimplHalfwordSignedStore c _ => Sys2Proof.Machine.execUnimplHalfwordSignedStore c s
  | .ldrh c ix rn rd off => Sys2Proof.Machine.execLdrh c ix rn rd off s
  | .strh c ix rn rd off => Sys2Proof.Machine.execStrh c ix rn rd off s
  | .ldrsb c ix rn rd off => Sys2Proof.Machine.execLdrsb c ix rn rd off s
  | .ldrsh c ix rn rd off => Sys2Proof.Machine.execLdrsh c ix rn rd off s
  | .unimplPsrTransfer c _ => Sys2Proof.Machine.execUnimplPsrTransfer c s
  | .unimplFlagsWithPcDest c _ => Sys2Proof.Machine.execUnimplFlagsWithPcDest c s
  | .unimplBadShiftEncoding c _ => Sys2Proof.Machine.execUnimplBadShiftEncoding c s
  | .and c sf rn rd o => Sys2Proof.Machine.execAnd c sf rn rd o s
  | .eor c sf rn rd o => Sys2Proof.Machine.execEor c sf rn rd o s
  | .sub c sf rn rd o => Sys2Proof.Machine.execSub c sf rn rd o s
  | .rsb c sf rn rd o => Sys2Proof.Machine.execRsb c sf rn rd o s
  | .add c sf rn rd o => Sys2Proof.Machine.execAdd c sf rn rd o s
  | .adc c sf rn rd o => Sys2Proof.Machine.execAdc c sf rn rd o s
  | .sbc c sf rn rd o => Sys2Proof.Machine.execSbc c sf rn rd o s
  | .rsc c sf rn rd o => Sys2Proof.Machine.execRsc c sf rn rd o s
  | .tst c rn o => Sys2Proof.Machine.execTst c rn o s
  | .teq c rn o => Sys2Proof.Machine.execTeq c rn o s
  | .cmp c rn o => Sys2Proof.Machine.execCmp c rn o s
  | .cmn c rn o => Sys2Proof.Machine.execCmn c rn o s
  | .orr c sf rn rd o => Sys2Proof.Machine.execOrr c sf rn rd o s
  | .mov c sf rd o => Sys2Proof.Machine.execMov c sf rd o s
  | .bic c sf rn rd o => Sys2Proof.Machine.execBic c sf rn rd o s
  | .mvn c sf rd o => Sys2Proof.Machine.execMvn c sf rd o s
  | .und _ _ _ => Sys2Proof.Machine.execUnd s
  | .ldr c ix rn rd off => Sys2Proof.Machine.execLdr c ix rn rd off s
  | .str c ix rn rd off => Sys2Proof.Machine.execStr c ix rn rd off s
  | .ldrb c ix rn rd off => Sys2Proof.Machine.execLdrb c ix rn rd off s
  | .strb c ix rn rd off => Sys2Proof.Machine.execStrb c ix rn rd off s
  | .unimplBlockTransferSBit c _ => Sys2Proof.Machine.execUnimplBlockTransferSBit c s
  | .ldmia c w rn list => Sys2Proof.Machine.execLdmia c w rn list s
  | .ldmib c w rn list => Sys2Proof.Machine.execLdmib c w rn list s
  | .ldmda c w rn list => Sys2Proof.Machine.execLdmda c w rn list s
  | .ldmdb c w rn list => Sys2Proof.Machine.execLdmdb c w rn list s
  | .stmia c w rn list => Sys2Proof.Machine.execStmia c w rn list s
  | .stmib c w rn list => Sys2Proof.Machine.execStmib c w rn list s
  | .stmda c w rn list => Sys2Proof.Machine.execStmda c w rn list s
  | .stmdb c w rn list => Sys2Proof.Machine.execStmdb c w rn list s
  | .b c imm24 => Sys2Proof.Machine.execB c imm24 s
  | .bl c imm24 => Sys2Proof.Machine.execBl c imm24 s
  | .ldc c p u n w rn crd cpNum offset8 => Sys2Proof.Machine.execLdc c p u n w rn crd cpNum offset8 s
  | .stc c p u n w rn crd cpNum offset8 => Sys2Proof.Machine.execStc c p u n w rn crd cpNum offset8 s
  | .cdp c cpOpc crn crd cpNum cp crm => Sys2Proof.Machine.execCdp c cpOpc crn crd cpNum cp crm s
  | .mcr c cpOpc crn rd cpNum cp crm => Sys2Proof.Machine.execMcr c cpOpc crn rd cpNum cp crm s
  | .mrc c cpOpc crn rd cpNum cp crm => Sys2Proof.Machine.execMrc c cpOpc crn rd cpNum cp crm s
  | .swi c comment => Sys2Proof.Machine.execSwi c comment s
  | .fmacs c d n m => Sys2Proof.Machine.execFmacs c d n m s
  | .fmacd c d n m => Sys2Proof.Machine.execFmacd c d n m s
  | .fnmacs c d n m => Sys2Proof.Machine.execFnmacs c d n m s
  | .fnmacd c d n m => Sys2Proof.Machine.execFnmacd c d n m s
  | .fmscs c d n m => Sys2Proof.Machine.execFmscs c d n m s
  | .fmscd c d n m => Sys2Proof.Machine.execFmscd c d n m s
  | .fnmscs c d n m => Sys2Proof.Machine.execFnmscs c d n m s
  | .fnmscd c d n m => Sys2Proof.Machine.execFnmscd c d n m s
  | .fmuls c d n m => Sys2Proof.Machine.execFmuls c d n m s
  | .fmuld c d n m => Sys2Proof.Machine.execFmuld c d n m s
  | .fnmuls c d n m => Sys2Proof.Machine.execFnmuls c d n m s
  | .fnmuld c d n m => Sys2Proof.Machine.execFnmuld c d n m s
  | .fadds c d n m => Sys2Proof.Machine.execFadds c d n m s
  | .faddd c d n m => Sys2Proof.Machine.execFaddd c d n m s
  | .fsubs c d n m => Sys2Proof.Machine.execFsubs c d n m s
  | .fsubd c d n m => Sys2Proof.Machine.execFsubd c d n m s
  | .fdivs c d n m => Sys2Proof.Machine.execFdivs c d n m s
  | .fdivd c d n m => Sys2Proof.Machine.execFdivd c d n m s
  | .unimplVfpOpcode c _ => Sys2Proof.Machine.execUnimplVfpOpcode c s
  | .fcpys c d m => Sys2Proof.Machine.execFcpys c d m s
  | .fcpyd c d m => Sys2Proof.Machine.execFcpyd c d m s
  | .fabss c d m => Sys2Proof.Machine.execFabss c d m s
  | .fabsd c d m => Sys2Proof.Machine.execFabsd c d m s
  | .fnegs c d m => Sys2Proof.Machine.execFnegs c d m s
  | .fnegd c d m => Sys2Proof.Machine.execFnegd c d m s
  | .fsqrts c d m => Sys2Proof.Machine.execFsqrts c d m s
  | .fsqrtd c d m => Sys2Proof.Machine.execFsqrtd c d m s
  | .fcmps c d m => Sys2Proof.Machine.execFcmps c d m s
  | .fcmpd c d m => Sys2Proof.Machine.execFcmpd c d m s
  | .fcmpes c d m => Sys2Proof.Machine.execFcmpes c d m s
  | .fcmped c d m => Sys2Proof.Machine.execFcmped c d m s
  | .fcmpzs c d => Sys2Proof.Machine.execFcmpzs c d s
  | .fcmpzd c d => Sys2Proof.Machine.execFcmpzd c d s
  | .fcmpezs c d => Sys2Proof.Machine.execFcmpezs c d s
  | .fcmpezd c d => Sys2Proof.Machine.execFcmpezd c d s
  | .fcvtds c d m => Sys2Proof.Machine.execFcvtds c d m s
  | .fcvtsd c d m => Sys2Proof.Machine.execFcvtsd c d m s
  | .fuitos c d m => Sys2Proof.Machine.execFuitos c d m s
  | .fuitod c d m => Sys2Proof.Machine.execFuitod c d m s
  | .fsitos c d m => Sys2Proof.Machine.execFsitos c d m s
  | .fsitod c d m => Sys2Proof.Machine.execFsitod c d m s
  | .ftouis c d m => Sys2Proof.Machine.execFtouis c d m s
  | .ftouid c d m => Sys2Proof.Machine.execFtouid c d m s
  | .ftouizs c d m => Sys2Proof.Machine.execFtouizs c d m s
  | .ftouizd c d m => Sys2Proof.Machine.execFtouizd c d m s
  | .ftosis c d m => Sys2Proof.Machine.execFtosis c d m s
  | .ftosid c d m => Sys2Proof.Machine.execFtosid c d m s
  | .ftosizs c d m => Sys2Proof.Machine.execFtosizs c d m s
  | .ftosizd c d m => Sys2Proof.Machine.execFtosizd c d m s
  | .unimplVfpRegister c b => Sys2Proof.Machine.execUnimplVfpRegister c b s
  | .unimplNoCoprocessor c _ => Sys2Proof.Machine.execUnimplNoCoprocessor c s
  | .fmsr c n rd => Sys2Proof.Machine.execFmsr c n rd s
  | .fmrs c n rd => Sys2Proof.Machine.execFmrs c n rd s
  | .fmdlr c n rd => Sys2Proof.Machine.execFmdlr c n rd s
  | .fmrdl c n rd => Sys2Proof.Machine.execFmrdl c n rd s
  | .fmdhr c n rd => Sys2Proof.Machine.execFmdhr c n rd s
  | .fmrdh c n rd => Sys2Proof.Machine.execFmrdh c n rd s
  | .fmrx c fn rd => Sys2Proof.Machine.execFmrx c fn rd s
  | .fmstat c => Sys2Proof.Machine.execFmstat c s
  | .fmxr c _ _ => Sys2Proof.Machine.execFmxr c s
  | .fmsrr c rn rd m => Sys2Proof.Machine.execFmsrr c rn rd m s
  | .fmrrs c rn rd m => Sys2Proof.Machine.execFmrrs c rn rd m s
  | .fmdrr c rn rd m => Sys2Proof.Machine.execFmdrr c rn rd m s
  | .fmrrd c rn rd m => Sys2Proof.Machine.execFmrrd c rn rd m s
  | .flds c u rn d offset8 => Sys2Proof.Machine.execFlds c u rn d offset8 s
  | .fsts c u rn d offset8 => Sys2Proof.Machine.execFsts c u rn d offset8 s
  | .fldd c u rn d offset8 => Sys2Proof.Machine.execFldd c u rn d offset8 s
  | .fstd c u rn d offset8 => Sys2Proof.Machine.execFstd c u rn d offset8 s
  | .unimplVfpAddressingMode c _ => Sys2Proof.Machine.execUnimplVfpAddressingMode c s
  | .unimplVfpRegisterList c b => Sys2Proof.Machine.execUnimplVfpRegisterList c b s
  | .fldmias c w rn f n => Sys2Proof.Machine.execFldmias c w rn f n s
  | .fldmiad c w rn f n => Sys2Proof.Machine.execFldmiad c w rn f n s
  | .fstmias c w rn f n => Sys2Proof.Machine.execFstmias c w rn f n s
  | .fstmiad c w rn f n => Sys2Proof.Machine.execFstmiad c w rn f n s
  | .fldmdbs c rn f n => Sys2Proof.Machine.execFldmdbs c rn f n s
  | .fldmdbd c rn f n => Sys2Proof.Machine.execFldmdbd c rn f n s
  | .fstmdbs c rn f n => Sys2Proof.Machine.execFstmdbs c rn f n s
  | .fstmdbd c rn f n => Sys2Proof.Machine.execFstmdbd c rn f n s

end Sys2Proof.Machine
end

