-- ==== Sys2Proof/Machine/Step.lean ====
section
/-!
DEFINITION. One step of the engine: fetch, classify, execute (40_decode.md R120). Every part is defined in
Ops.lean and the family files.
-/

namespace Sys2Proof.Machine

/-- One step. A machine that an SWI has stopped goes on as the next `run` call does (60_exceptions.md R437,
log entry 3). One step is one iteration and nothing else counts time: DESIGN CHOICE, safe (log entry 25). -/
def step (s : State) : Host.Outcome State Fault Refusal := fetch s.resume (runWord exec)

/-- `s` with an instruction placed where `step` fetches next (log entry 6). -/
def State.withFetchWord (s : State) (nbits w : Nat) : State := s.placeWord (tableWord nbits w)

end Sys2Proof.Machine
end

