-- ==== Sys2Proof/Machine/HostPort.lean ====
section
/-!
DEFINITION. The host port: the run contract (60_exceptions.md R440) and what the host may do between runs
(R441, 70_reset_and_hazards.md R460 to R463). `init` is `State.init`. DESIGN CHOICE, safe (log
entries 22, 23 and 28).
-/

namespace Sys2Proof.Machine

/-- How the loop of a `run` call ends, with the state it leaves. -/
inductive RunEnd where
  | exhausted (s : State)                 -- the iteration budget is spent
  | exited    (i : Interrupt) (s : State) -- an SWI
  | faulted   (f : Fault)
  | refused   (r : Refusal)
deriving DecidableEq, Repr

/-- At most `n` iterations (60_exceptions.md R440): each step counts one, whatever it did. -/
def runFor : Nat → State → RunEnd
  | 0, s => .exhausted s
  | n + 1, s =>
    match step s with
    | .next s' =>
      match s'.run with
      | .exited i => .exited i s'
      | .running => runFor n s'
    | .fault f => .faulted f
    | .refused r => .refused r

/-- Whether a run has ended otherwise than by its budget. -/
def RunEnd.isFinal : RunEnd → Bool
  | .exhausted _ => false
  | _ => true

/-- The loop of `run(max)` ends with `e` (60_exceptions.md R440): a call starts Running (10_state.md R35);
`max = 0` is no bound, and a run that never ends has no `e`. -/
def EndsWith (max : Word) (s : State) (e : RunEnd) : Prop :=
  if max = 0 then ∃ n, runFor n s.resume = e ∧ RunEnd.isFinal e = true else runFor max.toNat s.resume = e

/-- What a `run` call returns: one of the five interrupts or a fault (60_exceptions.md R430, R440). -/
inductive RunResult where
  | interrupt (i : Interrupt)
  | fault     (f : Fault)
deriving DecidableEq, Repr

/-- The result of a loop that ended so: a spent budget is `Resume`, as is an SWI mapped to it
(60_exceptions.md R440). None for a refusal, which no step ends in. -/
def RunEnd.result : RunEnd → Option RunResult
  | .exhausted _ => some (.interrupt .resume)
  | .exited i _ => some (.interrupt i)
  | .faulted f => some (.fault f)
  | .refused _ => none

/-- `run(max)` returns `r` (60_exceptions.md R440). -/
def Returns (max : Word) (s : State) (r : RunResult) : Prop := ∃ e, EndsWith max s e ∧ RunEnd.result e = some r

/-- The interrupts. -/
def allInterrupts : List Interrupt := [.resume, .stop, .suspend, .fatal, .undefined]

/-- The names of the faults (60_exceptions.md R431). -/
def allFaultNames : List FaultName :=
  [.undefined, .unimplemented .psrTransfer, .unimplemented .flagsWithPcDest, .unimplemented .badShiftEncoding,
   .unimplemented .halfwordSH00, .unimplemented .halfwordSignedStore, .unimplemented .blockTransferSBit,
   .unimplemented .noCoprocessor, .unimplemented .vfpOpcode, .unimplemented .vfpRegister,
   .unimplemented .vfpSystemRegister, .unimplemented .vfpAddressingMode, .unimplemented .vfpRegisterList,
   .segFault, .outOfRange]

/-- The injection a free numbering of a list of names stands for: itself where it is one on the list, else
each name's place. So every injection is one of these, and nothing else is (log entry 10). -/
def distinctCode {α : Type} [DecidableEq α] (names : List α) (number : α → Int) (a : α) : Int :=
  if (names.map number).Nodup then number a else Int.ofNat (names.idxOf a)

/-- `INT_CODE` (00_scope.md R4): the number the host sees of an interrupt (47_system.md R322). -/
def intCode (i : Interrupt) : Int := distinctCode allInterrupts Config.intNumber i

/-- `FAULT_CODE` (00_scope.md R4): the number the host sees of a fault. -/
def faultCode (k : FaultName) : Int := distinctCode allFaultNames Config.faultNumber k

/-- The name of a fault; a memory fault's address and width travel beside it (60_exceptions.md R432). -/
def Fault.name : Fault → FaultName
  | .undefined _ => .undefined
  | .unimplemented why _ => .unimplemented why
  | .memory (.segFault _ _ _) _ => .segFault
  | .memory (.outOfRange _ _) _ => .outOfRange

/-- The number of a run's result. The two kinds stay apart whatever the numbers are (47_system.md R322). -/
def RunResult.code : RunResult → Int
  | .interrupt i => intCode i
  | .fault f => faultCode f.name

/-- `add_access_range` (20_memory.md R60): a range appended. It is an operation of the Protected variant. -/
def State.addAccessRange (s : State) (r : AccessRange) : State := { s with ranges := s.ranges ++ [r] }

/-- One byte of the image as the host reads it, whatever the ranges (60_exceptions.md R441). -/
def State.hostRead (s : State) (a : Nat) : Byte := s.mem.read a

/-- One byte of the image as the host writes it; the image is all there is (60_exceptions.md R441). -/
def State.hostWrite (s : State) (a : Nat) (v : Byte) : State :=
  if a < s.setup.memSize then { s with mem := s.mem.write a v } else s

/-- The bytes of a file put at address 0 and up. -/
def loadBytes (m : Memory) : Nat → List Byte → Memory
  | _, [] => m
  | a, b :: bs => loadBytes (m.write a b) (a + 1) bs

/-- `load` of a file of these bytes (70_reset_and_hazards.md R462), for no more bytes than the image has. The
rule's zeros past the file are those of the fresh image; on an image that holds others already, the bytes past
the file stay: DESIGN CHOICE, unsafe (log entry 28). -/
def State.load (s : State) (bytes : List Byte) : State :=
  if bytes.length ≤ s.setup.memSize then { s with mem := loadBytes s.mem 0 bytes } else s

end Sys2Proof.Machine
end

