-- ==== Sys2Proof/Safety.lean ====
section
/-!
DEFINITION. The terms the statements use: the invariant of the machine, what an instruction leaves alone
(frames), which instructions may write the flags, and the values of floating-point patterns as rationals.
-/

namespace Sys2Proof.Safety

open Sys2Proof.Machine

/-- The invariant: memory in its canonical form and inside the image; the reserved bits of CPSR and the
SPSR at 0 (10_state.md R26, R29). -/
def Invariant (s : State) : Prop :=
  Memory.wf s.mem ∧ (∀ c ∈ s.mem, c.1 < s.setup.memSize) ∧ s.cpsr.extractLsb' 0 28 = 0 ∧ s.spsr = 0

/-- The state a fault carries (60_exceptions.md R434). -/
def faultState : Fault → State
  | .undefined s => s
  | .unimplemented _ s => s
  | .memory _ s => s

/-- The condition of an instruction lets it execute. -/
abbrev Passes (c : Cond) (s : State) : Prop := condTest c s = .passes

/-- The memory port lets an access through. -/
abbrev Allowed (s : State) (a : Word) (n : Nat) (kind : AccessKind) : Prop := checkAccess s a n kind = none

/-! ## Frames -/

/-- Every general register not in the list is as before. -/
def RegsBut (rs : List Reg) (s t : State) : Prop := ∀ r : Reg, r ∉ rs → t.reg r = s.reg r

/-- Every slot of the VFP bank not in the list is as before. -/
def SlotsBut (is : List SReg) (s t : State) : Prop := ∀ i : SReg, i ∉ is → t.sreg i = s.sreg i

/-- Every byte of memory is as before. -/
def SameMemory (s t : State) : Prop := ∀ a : Nat, t.mem.read a = s.mem.read a

/-- Every byte of memory outside the `n` bytes from `a` is as before. -/
def MemoryBut (a : Word) (n : Nat) (s t : State) : Prop :=
  ∀ b : Nat, (b < a.toNat ∨ a.toNat + n ≤ b) → t.mem.read b = s.mem.read b

/-- The status registers nothing but a compare or a saved status would write, the access ranges, the
parameters and the run state are as before. -/
def SameControl (s t : State) : Prop :=
  t.spsr = s.spsr ∧ t.fpexc = s.fpexc ∧ t.ranges = s.ranges ∧ t.setup = s.setup ∧ t.run = s.run

/-- All of the VFP unit is as before. -/
def SameVfp (s t : State) : Prop := SlotsBut [] s t ∧ t.fpscr = s.fpscr

/-- What a data-processing or multiply instruction leaves alone: all but `rs` and the CPSR. -/
def OnlyRegsAndFlags (rs : List Reg) (s t : State) : Prop :=
  RegsBut rs s t ∧ SameMemory s t ∧ SameVfp s t ∧ SameControl s t

/-- What an instruction that writes general registers and nothing else leaves alone. -/
def OnlyRegs (rs : List Reg) (s t : State) : Prop := OnlyRegsAndFlags rs s t ∧ t.cpsr = s.cpsr

/-- What an instruction that writes slots of the VFP bank and nothing else leaves alone. -/
def OnlySlots (is : List SReg) (s t : State) : Prop :=
  RegsBut [] s t ∧ SameMemory s t ∧ SlotsBut is s t ∧ t.fpscr = s.fpscr ∧ SameControl s t ∧ t.cpsr = s.cpsr

/-- What an instruction that stores `n` bytes at `a` and writes the general registers `rs` leaves alone. -/
def OnlyStores (a : Word) (n : Nat) (rs : List Reg) (s t : State) : Prop :=
  RegsBut rs s t ∧ MemoryBut a n s t ∧ SameVfp s t ∧ SameControl s t ∧ t.cpsr = s.cpsr

/-- The reserved bits 27:0 of CPSR and of FPSCR are as before. -/
def SameReserved (s t : State) : Prop :=
  t.cpsr.extractLsb' 0 28 = s.cpsr.extractLsb' 0 28 ∧ t.fpscr.extractLsb' 0 28 = s.fpscr.extractLsb' 0 28

/-! ## Who writes the flags (10_state.md R27) -/

/-- An instruction as the unit that executes it sees it: a generic coprocessor instruction is what the VFP
unit reads in its word (48_coprocessor_dispatch.md R331). -/
def asExecuted (i : Instr) : Instr := if i.isGeneric then decodeVfp (encode i) else i

/-- The writers of the flags that do not go through a coprocessor word, and the compares: data processing
with `S = 1`, a multiply with `S = 1` and no destination 15, FCMP and its variants. -/
def flagWriter : Instr → Bool
  | .and _ sf _ _ _ | .eor _ sf _ _ _ | .sub _ sf _ _ _ | .rsb _ sf _ _ _ | .add _ sf _ _ _
  | .adc _ sf _ _ _ | .sbc _ sf _ _ _ | .rsc _ sf _ _ _ | .orr _ sf _ _ _ | .bic _ sf _ _ _
  | .mov _ sf _ _ | .mvn _ sf _ _ => sf
  | .tst .. | .teq .. | .cmp .. | .cmn .. => true
  | .mul _ sf rd _ _ => sf && rd != 15
  | .mla _ sf rd _ _ _ => sf && rd != 15
  | .umull _ sf hi lo _ _ | .umlal _ sf hi lo _ _ | .smull _ sf hi lo _ _ | .smlal _ sf hi lo _ _ =>
    sf && hi != 15 && lo != 15
  | .fcmps .. | .fcmpd .. | .fcmpes .. | .fcmped .. | .fcmpzs .. | .fcmpzd .. | .fcmpezs .. | .fcmpezd .. => true
  | _ => false

/-- The multiplies, which write N and Z only (43_multiply.md R226). -/
def isMultiply : Instr → Bool
  | .mul .. | .mla .. | .umull .. | .umlal .. | .smull .. | .smlal .. => true
  | _ => false

/-- The compares of the VFP unit, the only writers of FPSCR (10_state.md R32). -/
def isCompare : Instr → Bool
  | .fcmps .. | .fcmpd .. | .fcmpes .. | .fcmped .. | .fcmpzs .. | .fcmpzd .. | .fcmpezs .. | .fcmpezd .. => true
  | _ => false

/-! ## Effects of the instruction families, as the statements ask for them -/

/-- The flags after a flag-setting instruction, the reserved bits of CPSR kept. -/
def FlagsAre (n z c v : Bool) (s t : State) : Prop :=
  t.flagN = n ∧ t.flagZ = z ∧ t.flagC = c ∧ t.flagV = v ∧ t.cpsr.extractLsb' 0 28 = s.cpsr.extractLsb' 0 28

/-- A data-processing instruction completes with a result in `rd`, the flags of it if `sf`, and nothing
else changed. -/
def AluEffect (i : Instr) (s : State) (rd : Reg) (sf : Bool) (result : Word) (c v : Bool) : Prop :=
  ∃ t, exec i s = .next t ∧ t.reg rd = result ∧
    (sf = true → FlagsAre (result.getLsbD 31) (decide (result = 0)) c v s t) ∧
    (sf = false → t.cpsr = s.cpsr) ∧ OnlyRegsAndFlags [rd] s t

/-- A compare completes with the flags of a result, and nothing else changed. -/
def CompareEffect (i : Instr) (s : State) (result : Word) (c v : Bool) : Prop :=
  ∃ t, exec i s = .next t ∧ FlagsAre (result.getLsbD 31) (decide (result = 0)) c v s t ∧ OnlyRegsAndFlags [] s t

/-- The flags of a multiply: N and Z where they are written, C and V never (43_multiply.md R226). -/
def MulFlags (written n z : Bool) (s t : State) : Prop :=
  (written = true → FlagsAre n z s.flagC s.flagV s t) ∧ (written = false → t.cpsr = s.cpsr)

/-- A 32-bit multiply completes. -/
def MulEffect (i : Instr) (s : State) (sf : Bool) (rd : Reg) (result : Word) : Prop :=
  ∃ t, exec i s = .next t ∧ t.reg rd = result ∧
    MulFlags (sf && rd != 15) (result.getLsbD 31) (decide (result = 0)) s t ∧ OnlyRegsAndFlags [rd] s t

/-- A long multiply completes: of equal destinations the high word remains (43_multiply.md R223). -/
def MulLongEffect (i : Instr) (s : State) (sf : Bool) (hi lo : Reg) (p : Dword) : Prop :=
  ∃ t, exec i s = .next t ∧ t.reg hi = p.extractLsb' 32 32 ∧ (hi ≠ lo → t.reg lo = p.extractLsb' 0 32) ∧
    MulFlags (sf && hi != 15 && lo != 15) (p.getLsbD 63) (decide (p = 0)) s t ∧ OnlyRegsAndFlags [hi, lo] s t

/-- The offsets of the single transfers as numbers: the 12-bit immediate and the split 8-bit immediate
zero-extended (30_encoding.md R101, R102), a plain register, and a register shifted by any immediate amount
(41_shifter.md R160), register 15 with its site's offset (R150). -/
def TransferOffsets (s : State) : Prop :=
  (∀ v : BitVec 12, (sdtOffset s (.imm v)).toNat = v.toNat) ∧
  (∀ immH immL : BitVec 4, (hdtOffset s (.imm (immH ++ immL))).toNat = 16 * immH.toNat + immL.toNat) ∧
  (∀ rm : Reg, hdtOffset s (.reg rm) = if rm = 15 then s.pc + BitVec.ofNat 32 s.setup.off.hdtRm else s.reg rm) ∧
  ∀ (rm : Reg) (amt : BitVec 5),
    let x := if rm = 15 then s.pc + BitVec.ofNat 32 s.setup.off.sdtRm else s.reg rm
    let rrx : Word := (if s.flagC then 0x80000000 else 0) ||| x >>> 1
    (sdtOffset s (.reg rm .lsl amt)).toNat = x.toNat * 2 ^ amt.toNat % 2 ^ 32 ∧
    (sdtOffset s (.reg rm .lsr amt)).toNat = x.toNat / 2 ^ amt.toNat ∧
    (amt ≠ 0 → (sdtOffset s (.reg rm .asr amt)).toInt = x.toInt / 2 ^ amt.toNat ∧
      sdtOffset s (.reg rm .ror amt) = x.rotateRight amt.toNat) ∧
    (amt = 0 → sdtOffset s (.reg rm .asr amt) = rrx ∧ sdtOffset s (.reg rm .ror amt) = rrx)

/-- A load completes: the value in `rd`, the base written back unless the load has overwritten it. -/
def LoadEffect (i : Instr) (s : State) (a : Address) (rn rd : Reg) (value : Word) : Prop :=
  ∃ t, exec i s = .next t ∧ t.reg rd = value ∧ (a.wb = true → rn ≠ rd → t.reg rn = a.target) ∧
    OnlyRegs (if a.wb then [rd, rn] else [rd]) s t

/-- A store completes: the low `n` bytes of the value at the address, the base written back. -/
def StoreEffect (i : Instr) (s : State) (a : Address) (n : Nat) (rn : Reg) (value : Word) : Prop :=
  ∃ t, exec i s = .next t ∧ t.mem.readN a.addr.toNat n = value.toNat % 256 ^ n ∧
    (a.wb = true → t.reg rn = a.target) ∧ OnlyStores a.addr n (if a.wb then [rn] else []) s t

/-- How many registers a list names (45_block_transfer.md R280). -/
def listCount (list : BitVec 16) : Nat := (List.range 16).countP list.getLsbD

/-- How many registers of a list have a number below `r`. -/
def listRank (list : BitVec 16) (r : Reg) : Nat := (List.range r.toNat).countP list.getLsbD

/-- The word a listed register transfers with: the lowest-numbered register at the lowest address, from the
start of the span of the mode (45_block_transfer.md R280, R289). -/
def blockAddress (before up : Bool) (base : Word) (list : BitVec 16) (r : Reg) : Word :=
  let n : Word := BitVec.ofNat 32 (4 * listCount list)
  let start := match before, up with
    | false, true => base
    | true, true => base + 4
    | false, false => base - n + 4
    | true, false => base - n
  start + BitVec.ofNat 32 (4 * listRank list r)

/-- The base after a block transfer with write-back (45_block_transfer.md R283). -/
def blockFinal (up : Bool) (base : Word) (list : BitVec 16) : Word :=
  if up then base + BitVec.ofNat 32 (4 * listCount list) else base - BitVec.ofNat 32 (4 * listCount list)

/-- Whether `q` is transferred before `r`: ascending numbers upward, descending downward. -/
def transfersBefore (up : Bool) (q r : Reg) : Bool := if up then q.toNat < r.toNat else r.toNat < q.toNat

/-- Where a block transfer's register goes, from the state it starts in. -/
def blockSlot (before up : Bool) (rn : Reg) (list : BitVec 16) (s : State) (r : Reg) : Word :=
  blockAddress before up (s.rd rn s.setup.off.bdtBase) list r

/-- An LDM completes when every word of its span can be read: each listed register its word, the base
written back last, and nothing else changed. -/
def LdmEffect (i : Instr) (before up w : Bool) (rn : Reg) (list : BitVec 16) (s : State) : Prop :=
  (∀ r : Reg, list.getLsbD r.toNat = true → Allowed s (blockSlot before up rn list s r) 4 .read) →
    ∃ t, exec i s = .next t ∧
      (∀ r : Reg, list.getLsbD r.toNat = true → (w = true → r ≠ rn) →
        t.reg r = BitVec.ofNat 32 (s.mem.readN (blockSlot before up rn list s r).toNat 4)) ∧
      (w = true → t.reg rn = blockFinal up (s.rd rn s.setup.off.bdtBase) list) ∧
      (∀ r : Reg, list.getLsbD r.toNat = false → (w = true → r ≠ rn) → t.reg r = s.reg r) ∧
      SameMemory s t ∧ SameVfp s t ∧ SameControl s t ∧ t.cpsr = s.cpsr

/-- An STM completes when every word of its span can be written: each listed register's value in its word,
the base written back last, and nothing else changed. -/
def StmEffect (i : Instr) (before up w : Bool) (rn : Reg) (list : BitVec 16) (s : State) : Prop :=
  (∀ r : Reg, list.getLsbD r.toNat = true → Allowed s (blockSlot before up rn list s r) 4 .write) →
    ∃ t, exec i s = .next t ∧
      (∀ r : Reg, list.getLsbD r.toNat = true →
        t.mem.readN (blockSlot before up rn list s r).toNat 4 = (s.rd r s.setup.off.stmStore).toNat) ∧
      (w = true → t.reg rn = blockFinal up (s.rd rn s.setup.off.bdtBase) list) ∧
      (∀ r : Reg, (w = true → r ≠ rn) → t.reg r = s.reg r) ∧
      (∀ b : Nat, (∀ r : Reg, list.getLsbD r.toNat = true →
          b < (blockSlot before up rn list s r).toNat ∨ (blockSlot before up rn list s r).toNat + 4 ≤ b) →
        t.mem.read b = s.mem.read b) ∧
      SameVfp s t ∧ SameControl s t ∧ t.cpsr = s.cpsr

/-- An LDM whose transfer of `r0` fails: the registers before it are loaded, nothing else has changed. -/
def LdmStopsAt (i : Instr) (before up : Bool) (rn : Reg) (list : BitVec 16) (s : State) : Prop :=
  ∀ (r0 : Reg) (f : MemFault), list.getLsbD r0.toNat = true →
    checkAccess s (blockSlot before up rn list s r0) 4 .read = some f →
    (∀ r : Reg, list.getLsbD r.toNat = true → transfersBefore up r r0 = true →
      Allowed s (blockSlot before up rn list s r) 4 .read) →
    ∃ t, exec i s = .fault (.memory f t) ∧
      (∀ r : Reg, t.reg r = if list.getLsbD r.toNat && transfersBefore up r r0 then
        BitVec.ofNat 32 (s.mem.readN (blockSlot before up rn list s r).toNat 4) else s.reg r) ∧
      SameMemory s t ∧ SameVfp s t ∧ SameControl s t ∧ t.cpsr = s.cpsr

/-- An STM whose transfer of `r0` fails: the words before it are written, nothing else has changed. -/
def StmStopsAt (i : Instr) (before up : Bool) (rn : Reg) (list : BitVec 16) (s : State) : Prop :=
  ∀ (r0 : Reg) (f : MemFault), list.getLsbD r0.toNat = true →
    checkAccess s (blockSlot before up rn list s r0) 4 .write = some f →
    (∀ r : Reg, list.getLsbD r.toNat = true → transfersBefore up r r0 = true →
      Allowed s (blockSlot before up rn list s r) 4 .write) →
    ∃ t, exec i s = .fault (.memory f t) ∧
      (∀ r : Reg, list.getLsbD r.toNat = true → transfersBefore up r r0 = true →
        t.mem.readN (blockSlot before up rn list s r).toNat 4 = (s.rd r s.setup.off.stmStore).toNat) ∧
      (∀ b : Nat, (∀ r : Reg, list.getLsbD r.toNat = true → transfersBefore up r r0 = true →
          b < (blockSlot before up rn list s r).toNat ∨ (blockSlot before up rn list s r).toNat + 4 ≤ b) →
        t.mem.read b = s.mem.read b) ∧
      RegsBut [] s t ∧ SameVfp s t ∧ SameControl s t ∧ t.cpsr = s.cpsr

/-- A store multiple of a mode and the load multiple of the opposite mode from the written-back base restore
the listed registers and the base (45_block_transfer.md R287), where the words stored can be read again (in the
Raw variant they always can): whatever the registers hold between the two. -/
def Pairs (stm ldm : Instr) (before up : Bool) (rn : Reg) (list : BitVec 16) (s : State) : Prop :=
  (s.setup.variant = .prot →
    ∀ r : Reg, list.getLsbD r.toNat = true → Allowed s (blockSlot before up rn list s r) 4 .read) →
  ∀ t t' : State, exec stm s = .next t → t'.mem = t.mem → t'.setup = t.setup → t'.ranges = t.ranges →
    t'.reg rn = t.reg rn → Passes ldm.cond t' →
    ∃ u, exec ldm t' = .next u ∧ u.reg rn = s.reg rn ∧ ∀ r : Reg, list.getLsbD r.toNat = true → u.reg r = s.reg r

/-- An instruction completes with `v` in single register `d`, and nothing else changed. -/
def SingleEffect (i : Instr) (s : State) (d : SReg) (v : Word) : Prop :=
  ∃ t, exec i s = .next t ∧ t.sreg d = v ∧ OnlySlots [d] s t

/-- An instruction completes with `v` in double register `d`, and nothing else changed. -/
def DoubleEffect (i : Instr) (s : State) (d : DReg) (v : Dword) : Prop :=
  ∃ t, exec i s = .next t ∧ t.dreg d = v ∧ OnlySlots [lowSlot d, highSlot d] s t

/-- The four bits of a compare (49_vfp.md R420). -/
def compareBits : FpClass → BitVec 4
  | .unordered => 0b0001
  | .lt => 0b1000
  | .eq => 0b0110
  | .gt => 0b0010

/-- A compare completes with the class's bits in bits 31:28 of FPSCR and of CPSR, and nothing else
changed. -/
def CompareClassEffect (i : Instr) (s : State) (k : FpClass) : Prop :=
  ∃ t, exec i s = .next t ∧ t.fpscr.extractLsb' 28 4 = compareBits k ∧ t.cpsr.extractLsb' 28 4 = compareBits k ∧
    SameReserved s t ∧ RegsBut [] s t ∧ SameMemory s t ∧ SlotsBut [] s t ∧ SameControl s t

/-- An instruction completes with `v` in general register `rd`, and nothing else changed. -/
def RegEffect (i : Instr) (s : State) (rd : Reg) (v : Word) : Prop :=
  ∃ t, exec i s = .next t ∧ t.reg rd = v ∧ OnlyRegs [rd] s t

/-- A VFP store completes: `n` bytes at the address, and nothing else changed. -/
def VfpStoreEffect (i : Instr) (s : State) (a : Word) (n v : Nat) : Prop :=
  ∃ t, exec i s = .next t ∧ t.mem.readN a.toNat n = v ∧ OnlyStores a n [] s t

/-- The VFP unit is attached and the instruction's condition passes. -/
def VfpRuns (c : Cond) (s : State) : Prop := Passes c s ∧ s.setup.coproc = .vfp

/-- Where register `k` of a multiple transfer goes (49_vfp.md R419). -/
def multipleSlot (m : DtMode) (rn : Reg) (words : BitVec 8) (size k : Nat) (s : State) : Word :=
  (match m with
    | .dbw => copReg s rn - BitVec.ofNat 32 (4 * words.toNat)
    | _ => copReg s rn) + BitVec.ofNat 32 (size * k)

/-- The base after a multiple transfer (49_vfp.md R418). -/
def multipleFinal (m : DtMode) (rn : Reg) (words : BitVec 8) (s : State) : Word :=
  match m with
  | .iaw => copReg s rn + BitVec.ofNat 32 (4 * words.toNat)
  | .dbw => copReg s rn - BitVec.ofNat 32 (4 * words.toNat)
  | _ => s.reg rn

/-- An FLDM of `count` registers of `size` bytes completes when each can be read: `get k t` is register `k`
of the transfer in state `t`, `touched` the slots of all of them. -/
def FldmEffect (i : Instr) (m : DtMode) (rn : Reg) (words : BitVec 8) (size count : Nat) (get : Nat → State → Nat)
    (touched : List SReg) (s : State) : Prop :=
  (∀ k < count, Allowed s (multipleSlot m rn words size k s) size .read) →
    ∃ t, exec i s = .next t ∧
      (∀ k < count, get k t = s.mem.readN (multipleSlot m rn words size k s).toNat size) ∧
      t.reg rn = multipleFinal m rn words s ∧ RegsBut [rn] s t ∧ SameMemory s t ∧ SlotsBut touched s t ∧
      t.fpscr = s.fpscr ∧ SameControl s t ∧ t.cpsr = s.cpsr

/-- An FSTM completes when each of its words can be written. -/
def FstmEffect (i : Instr) (m : DtMode) (rn : Reg) (words : BitVec 8) (size count : Nat) (get : Nat → State → Nat)
    (s : State) : Prop :=
  (∀ k < count, Allowed s (multipleSlot m rn words size k s) size .write) →
    ∃ t, exec i s = .next t ∧
      (∀ k < count, t.mem.readN (multipleSlot m rn words size k s).toNat size = get k s) ∧
      t.reg rn = multipleFinal m rn words s ∧ RegsBut [rn] s t ∧
      (∀ b : Nat, (∀ k < count, b < (multipleSlot m rn words size k s).toNat ∨
          (multipleSlot m rn words size k s).toNat + size ≤ b) → t.mem.read b = s.mem.read b) ∧
      SameVfp s t ∧ SameControl s t ∧ t.cpsr = s.cpsr

/-- An FLDM whose transfer `k0` the port turns away: the transfers before it done, no write-back, nothing else
changed (49_vfp.md R419, 60_exceptions.md R434). `touched k` is the slots of the first `k` registers. -/
def FldmStopsAt (i : Instr) (m : DtMode) (rn : Reg) (words : BitVec 8) (size count : Nat) (get : Nat → State → Nat)
    (touched : Nat → List SReg) (s : State) : Prop :=
  ∀ k0 < count, ∀ f : MemFault, checkAccess s (multipleSlot m rn words size k0 s) size .read = some f →
    (∀ k < k0, Allowed s (multipleSlot m rn words size k s) size .read) →
    ∃ t, exec i s = .fault (.memory f t) ∧
      (∀ k < k0, get k t = s.mem.readN (multipleSlot m rn words size k s).toNat size) ∧
      RegsBut [] s t ∧ SameMemory s t ∧ SlotsBut (touched k0) s t ∧ t.fpscr = s.fpscr ∧ SameControl s t ∧
      t.cpsr = s.cpsr

/-- An FSTM whose transfer `k0` the port turns away: the words before it written, no write-back, nothing else
changed. -/
def FstmStopsAt (i : Instr) (m : DtMode) (rn : Reg) (words : BitVec 8) (size count : Nat) (get : Nat → State → Nat)
    (s : State) : Prop :=
  ∀ k0 < count, ∀ f : MemFault, checkAccess s (multipleSlot m rn words size k0 s) size .write = some f →
    (∀ k < k0, Allowed s (multipleSlot m rn words size k s) size .write) →
    ∃ t, exec i s = .fault (.memory f t) ∧
      (∀ k < k0, t.mem.readN (multipleSlot m rn words size k s).toNat size = get k s) ∧
      (∀ b : Nat, (∀ k < k0, b < (multipleSlot m rn words size k s).toNat ∨
          (multipleSlot m rn words size k s).toNat + size ≤ b) → t.mem.read b = s.mem.read b) ∧
      RegsBut [] s t ∧ SameVfp s t ∧ SameControl s t ∧ t.cpsr = s.cpsr

/-- Register `k` of a multiple transfer of singles from `f`. -/
def singleAt (f : SReg) (k : Nat) (s : State) : Nat := (s.sreg (f + BitVec.ofNat 5 k)).toNat

/-- Register `k` of a multiple transfer of doubles from `f`. -/
def doubleAt (f : DReg) (k : Nat) (s : State) : Nat := (s.dreg (f + BitVec.ofNat 4 k)).toNat

/-- The slots of `n` singles from `f`. -/
def singlesFrom (f : SReg) (n : Nat) : List SReg := (List.range n).map fun k => f + BitVec.ofNat 5 k

/-- The slots of `n` doubles from `f`. -/
def doublesFrom (f : DReg) (n : Nat) : List SReg :=
  (List.range n).flatMap fun k => [lowSlot (f + BitVec.ofNat 4 k), highSlot (f + BitVec.ofNat 4 k)]

/-- The data-processing rows of the opcode table. -/
def isDataProcessing : Instr → Bool
  | .unimplPsrTransfer .. | .unimplFlagsWithPcDest .. | .unimplBadShiftEncoding .. => true
  | .and .. | .eor .. | .sub .. | .rsb .. | .add .. | .adc .. | .sbc .. | .rsc .. | .tst .. | .teq .. | .cmp ..
  | .cmn .. | .orr .. | .mov .. | .bic .. | .mvn .. => true
  | _ => false

/-- The row of another coprocessor's word in the VFP unit's list. -/
def isNoCoprocessor : Instr → Bool
  | .unimplNoCoprocessor .. => true
  | _ => false

/-- The row of the undefined format. -/
def isUndefined : Instr → Bool
  | .und .. => true
  | _ => false

/-- A byte some range of the Protected variant lets the guest write. -/
def Writable (s : State) (b : Nat) : Prop :=
  ∃ r ∈ s.ranges, covers r.perm .write = true ∧ r.start.toNat ≤ b ∧ b < r.start.toNat + r.size

/-! ## Floating-point values as rationals (49_vfp.md R421) -/

/-- The bias of a format. -/
def bias (f : FpFormat) : Nat := 2 ^ (f.exp - 1) - 1

/-- Exponent all ones. -/
def isSpecial (f : FpFormat) (b : Nat) : Bool := fpExponent f b == 2 ^ f.exp - 1

/-- The value of a pattern that is neither a NaN nor an infinity, as the rule writes it. -/
def ratValue (f : FpFormat) (b : Nat) : ℚ :=
  let sign : ℚ := if fpSign f b then -1 else 1
  let e := fpExponent f b
  let frac : ℚ := (fpFraction f b : ℚ) / 2 ^ f.frac
  if e = 0 then sign * (2 : ℚ) ^ ((1 : ℤ) - bias f) * frac
  else sign * (2 : ℚ) ^ ((e : ℤ) - bias f) * (1 + frac)

/-- A rational rounded toward zero. -/
def trunc (v : ℚ) : ℤ := if 0 ≤ v then ⌊v⌋ else ⌈v⌉

end Sys2Proof.Safety
end

