-- ==== Sys2Proof/Certificates/Slice0/Obligations.lean ====
section
/-!
DEFINITION. The statements for the provers. Each names the rules of spec/ it formalises; "derived" says that
its clauses also rest on a choice of the model or on several rules read together.
-/

open Sys2Proof Sys2Proof.Machine Sys2Proof.Safety

/-! ## Decoding -/

/-- Words written out from the encodings of 30_encoding.md and 49_vfp.md, with the instructions the rules'
own examples give them. -/
def Obligations.KnownWordsDecode : Prop :=
  decodeWord 0xE12FFF1E = .ok (.bx .al 14) ∧
  decodeWord 0xE1010092 = .ok (.swp .al 1 0 2) ∧
  decodeWord 0xE0D10392 = .ok (.smull .al true 1 0 3 2) ∧
  decodeWord 0xE1D100B2 = .ok (.ldrh .al ⟨true, true, false⟩ 1 0 (.imm 2)) ∧
  decodeWord 0xE0910002 = .ok (.add .al true 1 0 (.regImm 2 .lsl 0)) ∧
  decodeWord 0xE7910102 = .ok (.ldr .al ⟨true, true, false⟩ 1 0 (.reg 2 .lsl 2)) ∧
  decodeWord 0xE8BD8010 = .ok (.ldmia .al true 13 0x8010) ∧
  decodeWord 0x1AFFFFFC = .ok (.b .ne 0xFFFFFC) ∧
  decodeWord 0xEF123456 = .ok (.swi .al 0x123456) ∧
  decodeWord 0xE7F000F0 = .ok (.und .al 0xF8007 0) ∧
  decodeWord 0xEE310A02 = .ok (.fadds .al 0 2 4) ∧
  decodeWord 0xEEF00A41 = .ok (.fcpys .al 1 2) ∧
  decodeWord 0xEC410B10 = .ok (.fmdrr .al 1 0 0) ∧
  decodeWord 0xED921B02 = .ok (.fldd .al true 2 1 2) ∧
  decodeWord 0xED2D0B04 = .ok (.fstmdbd .al 13 0 2)

/-- 30_encoding.md R83: no word falls through the classifier; and what it decodes to is well formed and
carries the word's own condition. R83 is the spec's own derivation. -/
def Obligations.EveryWordDecodes : Prop :=
  ∀ w : Word, (∃ f, classify w = some f) ∧
    ∃ i, decodeWord w = .ok i ∧ i.wf = true ∧ i.cond = Cond.ofCode (w.extractLsb' 28 4)

/-- 40_decode.md R122, R127: the format depends on bits 27:0 alone. R127 is the spec's own derivation. -/
def Obligations.ClassificationIgnoresCondition : Prop :=
  ∀ v w : Word, v.extractLsb' 0 28 = w.extractLsb' 0 28 → classify v = classify w

/-- Decode of encode, for the data-processing rows (30_encoding.md R84, R85, R105). -/
def Obligations.DataProcessingRoundTrip : Prop :=
  ∀ i : Instr, i.wf = true → isDataProcessing i = true →
    decodeEngine (encode i) = .ok i ∧ decodeWord (encode i) = .ok i

/-- Decode of encode, for every other row of the engine's list (30_encoding.md R86 to R98); a coprocessor
word with the VFP unit's number decodes further. -/
def Obligations.EngineRoundTrip : Prop :=
  ∀ i : Instr, i.wf = true → i.level = .engine → isDataProcessing i = false →
    decodeEngine (encode i) = .ok i ∧
      (¬(i.isGeneric = true ∧ isVfpWord (encode i) = true) → decodeWord (encode i) = .ok i)

/-- Decode of encode, for every row of the VFP unit's list (49_vfp.md R361, R364, R370, R380, R406, R417,
R418). -/
def Obligations.VfpRoundTrip : Prop :=
  ∀ i : Instr, i.wf = true → i.level = .vfp →
    decodeVfp (encode i) = i ∧ (isNoCoprocessor i = false → decodeWord (encode i) = .ok i)

/-! ## The step -/

/-- 40_decode.md R120, R121: when the bytes at the program counter can be fetched and decode to an
instruction, the step is that instruction's execution with the program counter advanced by 4 and the run
state Running. -/
def Obligations.StepRunsTheDecoded : Prop :=
  ∀ (s : State) (i : Instr), Allowed s s.pc 4 .read →
    decode [s.mem.read s.pc.toNat, s.mem.read (s.pc.toNat + 1), s.mem.read (s.pc.toNat + 2),
      s.mem.read (s.pc.toNat + 3)] = .ok (i, []) →
    step s = exec i (s.resume.setReg 15 (s.pc + 4))

/-- 40_decode.md R121: a failing fetch ends the step with its fault, and nothing has changed, the program
counter included. Rests on the spec's own decision D34 (92_eei_decisions.md). -/
def Obligations.FetchFaultKeepsEverything : Prop :=
  ∀ (s : State) (f : MemFault), checkAccess s s.pc 4 .read = some f →
    step s = .fault (.memory f s.resume) ∧ s.resume.pc = s.pc ∧ SameMemory s s.resume

/-- An instruction word placed where the next fetch reads is the one the next step runs (40_decode.md R121;
log entry 6). -/
def Obligations.PlacedWordRuns : Prop :=
  ∀ (s : State) (nbits w : Nat) (i : Instr), Invariant s → s.pc.toNat + 4 ≤ s.setup.memSize →
    decodeTableWord nbits w = some i →
    step (s.withFetchWord nbits w) = exec i ((s.withFetchWord nbits w).resume.setReg 15 (s.pc + 4))

/-- 40_decode.md R123: the fifteen conditions on CPSR bits 31 (N), 30 (Z), 29 (C), 28 (V). The predicates are
R123's own table, supplied from the standard one. -/
def Obligations.ConditionCodes : Prop :=
  ∀ s : State,
    let n := s.cpsr.getLsbD 31
    let z := s.cpsr.getLsbD 30
    let cf := s.cpsr.getLsbD 29
    let v := s.cpsr.getLsbD 28
    (Passes (Cond.ofCode 0) s ↔ z = true) ∧ (Passes (Cond.ofCode 1) s ↔ z = false) ∧
    (Passes (Cond.ofCode 2) s ↔ cf = true) ∧ (Passes (Cond.ofCode 3) s ↔ cf = false) ∧
    (Passes (Cond.ofCode 4) s ↔ n = true) ∧ (Passes (Cond.ofCode 5) s ↔ n = false) ∧
    (Passes (Cond.ofCode 6) s ↔ v = true) ∧ (Passes (Cond.ofCode 7) s ↔ v = false) ∧
    (Passes (Cond.ofCode 8) s ↔ cf = true ∧ z = false) ∧ (Passes (Cond.ofCode 9) s ↔ cf = false ∨ z = true) ∧
    (Passes (Cond.ofCode 10) s ↔ n = v) ∧ (Passes (Cond.ofCode 11) s ↔ n ≠ v) ∧
    (Passes (Cond.ofCode 12) s ↔ z = false ∧ n = v) ∧ (Passes (Cond.ofCode 13) s ↔ z = true ∨ n ≠ v) ∧
    Passes (Cond.ofCode 14) s

/-- 40_decode.md R124: an instruction whose condition fails changes nothing further, whatever it is; the
undefined format alone is decided before the condition (R126). -/
def Obligations.FailedConditionIsNoOp : Prop :=
  ∀ (i : Instr) (s : State), isUndefined i = false → condTest i.cond s = .fails → exec i s = .next s

/-- 40_decode.md R125: condition field `1111` ends the step with `Fault(Undefined)`, whatever the format; with
`COND_1111 = Never` it is a condition that always fails. Rests on the spec's own decision D3
(92_eei_decisions.md). -/
def Obligations.ReservedCondition : Prop :=
  ∀ (i : Instr) (s : State), i.cond = .nv →
    (s.setup.cond1111 = .fault → exec i s = .fault (.undefined s)) ∧
    (s.setup.cond1111 = .never → isUndefined i = false → exec i s = .next s)

/-- 47_system.md R321: a word of the undefined format ends the step with `Fault(Undefined)` whatever its
condition, with no other effect than the fetch's. Rests on the spec's own decision D4 (92_eei_decisions.md). -/
def Obligations.UndefinedFormatFaults : Prop :=
  (∀ (c : Cond) (hi : BitVec 20) (lo : BitVec 4) (s : State), exec (.und c hi lo) s = .fault (.undefined s)) ∧
  ∀ (s : State) (w : Word), Allowed s s.pc 4 .read → s.mem.readN s.pc.toNat 4 = w.toNat →
    w.extractLsb' 25 3 = 0b011 → w.getLsbD 4 = true →
    step s = .fault (.undefined (s.resume.setReg 15 (s.pc + 4)))

/-! ## Memory -/

/-- 20_memory.md R54: the little-endian sum, and what a write leaves in the bytes it addresses and in the
others. -/
def Obligations.LittleEndianMemory : Prop :=
  ∀ (m : Memory) (a n v : Nat), Memory.wf m →
    m.readN a n = ∑ k ∈ Finset.range n, (m.read (a + k)).toNat * 2 ^ (8 * k) ∧
    (m.writeN a n v).readN a n = v % 2 ^ (8 * n) ∧
    (∀ k < n, (m.writeN a n v).read (a + k) = BitVec.ofNat 8 (v / 2 ^ (8 * k))) ∧
    (∀ b, b < a ∨ a + n ≤ b → (m.writeN a n v).read b = m.read b)

/-- 20_memory.md R57: in the Protected variant an access is authorised iff one range covers all its bytes
with the permission; then it reads or stores the bytes (of an image that holds them), otherwise it is a
SegFault, whatever the size of the image. The last clause, that without a range the fetch fails and x[15]
stays, is derived there and from R61, and rests on R121's decision D34; the ends computed without wrapping and
the bound of the image are the decisions D33 (R62) and D32 (R58) (92_eei_decisions.md; log entry 26). -/
def Obligations.ProtectedAuthorisation : Prop :=
  ∀ (s : State) (a : Word) (n v : Nat), s.setup.variant = .prot →
    let readable := ∃ r ∈ s.ranges, (r.perm = .read ∨ r.perm = .readWrite) ∧ r.start.toNat ≤ a.toNat ∧
      a.toNat + n ≤ r.start.toNat + r.size
    let writable := ∃ r ∈ s.ranges, (r.perm = .write ∨ r.perm = .readWrite) ∧ r.start.toNat ≤ a.toNat ∧
      a.toNat + n ≤ r.start.toNat + r.size
    (memRead s a n = .error (.segFault a n .read) ↔ ¬readable) ∧
    (memWrite s a n v = .error (.segFault a n .write) ↔ ¬writable) ∧
    (readable → a.toNat + n ≤ s.setup.memSize → memRead s a n = .ok (s.mem.readN a.toNat n)) ∧
    (writable → a.toNat + n ≤ s.setup.memSize →
      memWrite s a n v = .ok { s with mem := s.mem.writeN a.toNat n v }) ∧
    (s.ranges = [] → step s = .fault (.memory (.segFault s.pc 4 .read) s.resume))

/-- 20_memory.md R56, R58, R62: an access with a byte outside the image is OutOfRange, the end computed
without wrapping; in the Raw variant every other access succeeds. Rests on the spec's own decisions D32, D33
(92_eei_decisions.md). -/
def Obligations.OutOfImage : Prop :=
  ∀ (s : State) (a : Word) (n v : Nat),
    (s.setup.variant = .raw → s.setup.memSize < a.toNat + n →
      memRead s a n = .error (.outOfRange a n) ∧ memWrite s a n v = .error (.outOfRange a n)) ∧
    (s.setup.variant = .prot → authorized s.ranges a n .read = true → s.setup.memSize < a.toNat + n →
      memRead s a n = .error (.outOfRange a n)) ∧
    (s.setup.variant = .prot → authorized s.ranges a n .write = true → s.setup.memSize < a.toNat + n →
      memWrite s a n v = .error (.outOfRange a n)) ∧
    (s.setup.variant = .raw → a.toNat + n ≤ s.setup.memSize →
      memRead s a n = .ok (s.mem.readN a.toNat n) ∧
      memWrite s a n v = .ok { s with mem := s.mem.writeN a.toNat n v })

/-! ## Reset and the whole machine -/

/-- The machine right after reset meets the invariant, for any parameters and any draw of `VFP_RESET`; the
model's own reset state is one of them (log entries 2 and 5). -/
def Obligations.ResetMeetsInvariant : Prop :=
  (∀ (p : Setup) (bank : Vector Word 32) (fpscr fpexc : Word), Invariant (State.init p bank fpscr fpexc)) ∧
  Invariant State.reset

/-- 10_state.md R37, 70_reset_and_hazards.md R461: the values after `init`, for any parameters and any draw
of `VFP_RESET`; the model's reset state is one of these (which one is log entries 2 and 5). -/
def Obligations.ResetValues : Prop :=
  (∀ (p : Setup) (bank : Vector Word 32) (fpscr fpexc : Word),
    let s := State.init p bank fpscr fpexc
    (∀ r : Reg, s.reg r = 0) ∧ s.pc = 0 ∧ s.cpsr = 0 ∧ s.spsr = 0 ∧ (∀ a, s.mem.read a = 0) ∧ s.ranges = [] ∧
      (∀ i : SReg, s.sreg i = bank[i.toNat]) ∧ s.fpscr = fpscr ∧ s.fpexc = fpexc ∧
      s.setup.fpsid = p.fpsid ∧ s.setup.memSize = p.memSize ∧ s.run = .running) ∧
  ∃ (p : Setup) (bank : Vector Word 32) (fpscr fpexc : Word), State.reset = State.init p bank fpscr fpexc

/-- Every step keeps the invariant: the memory's canonical form, its bytes inside the image, CPSR bits 27:0
and SPSR at 0 (10_state.md R26, R29; 20_memory.md R50, R58). -/
def Obligations.StepKeepsInvariant : Prop :=
  ∀ s t : State, Invariant s → step s = .next t → Invariant t

/-- The state a fault leaves meets the invariant too: a violation does not corrupt the machine
(60_exceptions.md R434, R437). -/
def Obligations.FaultKeepsInvariant : Prop :=
  ∀ (s : State) (f : Fault), Invariant s → step s = .fault f → Invariant (faultState f)

/-- Every step has one of the outcomes of 60_exceptions.md R430 and none is refused; a run state `exited` is
left by an SWI alone, with what `SWI_MAP` gives its comment (48_coprocessor_dispatch.md R330). Rests on the
spec's own decision D22 (92_eei_decisions.md); that an Exit is a next state is log entry 3. -/
def Obligations.StepNeverRefuses : Prop :=
  (∀ s : State, (∃ t, step s = .next t) ∨ (∃ t, step s = .fault (.undefined t)) ∨
    (∃ why t, step s = .fault (.unimplemented why t)) ∨ (∃ f t, step s = .fault (.memory f t))) ∧
  ∀ (i : Instr) (s t : State) (k : Interrupt), s.run = .running → exec i s = .next t → t.run = .exited k →
    ∃ c comment, i = .swi c comment ∧ k = Config.swiMap comment

/-- What no instruction writes: the parameters, the access ranges, SPSR, FPEXC and the reserved bits of CPSR
and FPSCR (00_scope.md R11; 10_state.md R26, R29, R32, R33; 20_memory.md R65). -/
def Obligations.NoInstructionWritesControl : Prop :=
  ∀ s t : State, step s = .next t →
    t.setup = s.setup ∧ t.ranges = s.ranges ∧ t.spsr = s.spsr ∧ t.fpexc = s.fpexc ∧ SameReserved s t

/-- 10_state.md R27, R32: the complete list of the writers of the flags; the multiplies among them keep C
and V; FPSCR is written by a compare alone. -/
def Obligations.WritersOfTheFlags : Prop :=
  ∀ (i : Instr) (s t : State), exec i s = .next t →
    (flagWriter (asExecuted i) = false → t.cpsr = s.cpsr) ∧
    (isMultiply i = true → t.flagC = s.flagC ∧ t.flagV = s.flagV) ∧
    (isCompare (asExecuted i) = false → t.fpscr = s.fpscr)

/-- In the Protected variant no step, whether it completes or faults, changes a byte that no range lets the
guest write (20_memory.md R57, R59). -/
def Obligations.ProtectedBytesUnchanged : Prop :=
  ∀ (s : State) (b : Nat), Invariant s → s.setup.variant = .prot → ¬Writable s b →
    (∀ t, step s = .next t → t.mem.read b = s.mem.read b) ∧
    (∀ f, step s = .fault f → (faultState f).mem.read b = s.mem.read b)

/-! ## The barrel shifter -/

/-- 41_shifter.md R159: the table of the four types at amounts 0, 1, 31, 32, 33 and 255 of a register, and row
0 of the immediate encoding. Rests on the spec's own decisions D7, D8, D9 (92_eei_decisions.md). -/
def Obligations.ShifterEdgeTable : Prop :=
  ∀ (c : Bool) (v : Word),
    let s := v.getLsbD 31
    let sx : Word := if s then 0xFFFFFFFF else 0
    let one : Word := 1
    let rrx : Shifted := ⟨(if c then 0x80000000 else 0) ||| v >>> 1, v.getLsbD 0⟩
    let ror1 : Word := v >>> 1 ||| (v &&& one) <<< 31
    let ror31 : Word := v <<< 1 ||| v >>> 31
    (shift c .lsl v 0 .reg = ⟨v, false⟩ ∧ shift c .lsr v 0 .reg = ⟨v, false⟩ ∧
      shift c .asr v 0 .reg = rrx ∧ shift c .ror v 0 .reg = ⟨v, false⟩) ∧
    (shift c .lsl v 1 .reg = ⟨v <<< 1, s⟩ ∧ shift c .lsr v 1 .reg = ⟨v >>> 1, v.getLsbD 0⟩ ∧
      shift c .asr v 1 .reg = ⟨(if s then 0x80000000 else 0) ||| v >>> 1, v.getLsbD 0⟩ ∧
      shift c .ror v 1 .reg = ⟨ror1, v.getLsbD 0⟩) ∧
    (shift c .lsl v 31 .reg = ⟨(v &&& one) <<< 31, v.getLsbD 1⟩ ∧
      shift c .lsr v 31 .reg = ⟨if s then 1 else 0, v.getLsbD 30⟩ ∧
      shift c .asr v 31 .reg = ⟨sx, v.getLsbD 30⟩ ∧ shift c .ror v 31 .reg = ⟨ror31, v.getLsbD 30⟩) ∧
    (shift c .lsl v 32 .reg = ⟨0, v.getLsbD 0⟩ ∧ shift c .lsr v 32 .reg = ⟨0, s⟩ ∧
      shift c .asr v 32 .reg = ⟨sx, s⟩ ∧ shift c .ror v 32 .reg = ⟨v, s⟩) ∧
    (shift c .lsl v 33 .reg = ⟨0, false⟩ ∧ shift c .lsr v 33 .reg = ⟨0, false⟩ ∧
      shift c .asr v 33 .reg = ⟨sx, s⟩ ∧ shift c .ror v 33 .reg = ⟨ror1, v.getLsbD 0⟩) ∧
    (shift c .lsl v 255 .reg = ⟨0, false⟩ ∧ shift c .lsr v 255 .reg = ⟨0, false⟩ ∧
      shift c .asr v 255 .reg = ⟨sx, s⟩ ∧ shift c .ror v 255 .reg = ⟨ror31, v.getLsbD 30⟩) ∧
    (shift c .lsl v 0 .imm = ⟨v, false⟩ ∧ shift c .lsr v 0 .imm = ⟨v, false⟩ ∧ shift c .asr v 0 .imm = rrx ∧
      shift c .ror v 0 .imm = rrx)

/-- 41_shifter.md R154, R155, R156, R158: amounts 1 to 31 in either encoding as arithmetic on the value, the
carry-out the last bit shifted out; a rotate depends on the amount modulo 32, and a rotate by a multiple of 32
other than 0 leaves the value. Rests on the spec's own decisions D7, D8, D9 (92_eei_decisions.md). -/
def Obligations.ShiftsAreArithmetic : Prop :=
  ∀ (c : Bool) (v : Word) (n : Nat) (e : ShiftEnc),
    (1 ≤ n → n ≤ 31 →
      (shift c .lsl v n e).value.toNat = v.toNat * 2 ^ n % 2 ^ 32 ∧
      (shift c .lsl v n e).cout = v.getLsbD (32 - n) ∧
      (shift c .lsr v n e).value.toNat = v.toNat / 2 ^ n ∧ (shift c .lsr v n e).cout = v.getLsbD (n - 1) ∧
      (shift c .asr v n e).value.toInt = v.toInt / 2 ^ n ∧ (shift c .asr v n e).cout = v.getLsbD (n - 1) ∧
      (shift c .ror v n e).value = v.rotateRight n ∧ (shift c .ror v n e).cout = v.getLsbD (n - 1)) ∧
    (32 ≤ n →
      shift c .ror v n e = if n % 32 = 0 then ⟨v, v.getLsbD 31⟩ else shift c .ror v (n % 32) e) ∧
    (33 ≤ n → shift c .lsl v n e = ⟨0, false⟩ ∧ shift c .lsr v n e = ⟨0, false⟩) ∧
    (32 ≤ n → shift c .asr v n e = ⟨if v.getLsbD 31 then 0xFFFFFFFF else 0, v.getLsbD 31⟩)

/-- 30_encoding.md R100, 41_shifter.md R152: the immediate is the byte rotated right by twice the field; its
carry-out is 0 without a rotation, else bit 31 of the value. Rests on the spec's own decision D6
(92_eei_decisions.md). -/
def Obligations.ImmediateIsRotated : Prop :=
  ∀ (s : State) (rot : BitVec 4) (imm8 : BitVec 8),
    (operand2 s (.imm rot imm8)).value = (imm8.setWidth 32).rotateRight (2 * rot.toNat) ∧
    (operand2 s (.imm rot imm8)).cout = (rot != 0 && ((imm8.setWidth 32).rotateRight (2 * rot.toNat)).getLsbD 31)

/-- 41_shifter.md R150: what register 15 reads as at every site, with this hardware's offsets; `s.pc` is the
stored value, 4 above the instruction's own address. Rests on the spec's own decisions D1, D2, D29
(92_eei_decisions.md). -/
def Obligations.RegisterFifteenReads : Prop :=
  ∀ (s : State) (imm24 : BitVec 24) (ty : ShiftType) (rs : Reg), s.setup.off = offsets →
    branchTarget s imm24 = s.pc + 4 + branchOffset imm24 ∧
    s.pc + BitVec.ofNat 32 s.setup.off.link = s.pc ∧
    operand1 s 15 = s.pc + 8 ∧
    operand2 s (.regImm 15 ty 1) = shift s.flagC ty (s.pc + 4) 1 .imm ∧
    operand2 s (.regReg 15 ty rs) = shift s.flagC ty (s.pc + 8) (shiftAmount s rs) .reg ∧
    shiftAmount s 15 = s.pc.toNat % 256 ∧
    (sdtAddress s ⟨true, true, false⟩ 15 (.imm 0)).addr = s.pc + 8 ∧
    sdtOffset s (.reg 15 ty 1) = (shift s.flagC ty (s.pc + 4) 1 .imm).value ∧
    s.rd 15 s.setup.off.sdtStore = s.pc + 12 ∧
    (hdtAddress s ⟨true, true, false⟩ 15 (.imm 0)).addr = s.pc + 8 ∧
    hdtOffset s (.reg 15) = s.pc ∧
    s.rd 15 s.setup.off.hdtStore = s.pc + 8 ∧
    s.rd 15 s.setup.off.stmStore = s.pc + 8 ∧
    s.rd 15 s.setup.off.bdtBase = s.pc ∧
    mulOperand s 15 = s.pc ∧ s.rd 15 s.setup.off.swp = s.pc ∧ s.rd 15 s.setup.off.bx = s.pc ∧ copReg s 15 = s.pc

/-! ## Data processing -/

/-- 42_data_processing.md R181, R190, R191, R202 to R205: the logical opcodes that write a register. -/
def Obligations.LogicalResults : Prop :=
  ∀ (c : Cond) (sf : Bool) (rn rd : Reg) (o : Operand2) (s : State), Passes c s → ¬(sf = true ∧ rd = 15) →
    let a := operand1 s rn
    let b := (operand2 s o).value
    let sc := (operand2 s o).cout
    AluEffect (.and c sf rn rd o) s rd sf (a &&& b) sc s.flagV ∧
    AluEffect (.eor c sf rn rd o) s rd sf (a ^^^ b) sc s.flagV ∧
    AluEffect (.orr c sf rn rd o) s rd sf (a ||| b) sc s.flagV ∧
    AluEffect (.bic c sf rn rd o) s rd sf (a &&& ~~~b) sc s.flagV ∧
    AluEffect (.mov c sf rd o) s rd sf b sc s.flagV ∧
    AluEffect (.mvn c sf rd o) s rd sf (~~~b) sc s.flagV

/-- 42_data_processing.md R182, R194, R195: ADD and ADC; C is the carry out of the unsigned sum, V says that
the signed sum is not the result's value. Rests on the spec's own decision D12 for ADC (92_eei_decisions.md). -/
def Obligations.AdditiveResults : Prop :=
  ∀ (c : Cond) (sf : Bool) (rn rd : Reg) (o : Operand2) (s : State), Passes c s → ¬(sf = true ∧ rd = 15) →
    let a := operand1 s rn
    let b := (operand2 s o).value
    (∃ r : Word, r.toNat = (a.toNat + b.toNat) % 2 ^ 32 ∧
      AluEffect (.add c sf rn rd o) s rd sf r (decide (2 ^ 32 ≤ a.toNat + b.toNat))
        (decide (r.toInt ≠ a.toInt + b.toInt))) ∧
    (∃ r : Word, r.toNat = (a.toNat + b.toNat + s.flagC.toNat) % 2 ^ 32 ∧
      AluEffect (.adc c sf rn rd o) s rd sf r (decide (2 ^ 32 ≤ a.toNat + b.toNat + s.flagC.toNat))
        (decide (r.toInt ≠ a.toInt + b.toInt + s.flagC.toNat)))

/-- 42_data_processing.md R183, R192, R193, R196, R197: SUB, RSB, SBC and RSC; C is the carry out of `a + ~b +
cin`, not-borrow, V says that the signed difference is not the result's value. Rests on the spec's own
decision D12 for SBC and RSC (92_eei_decisions.md). -/
def Obligations.SubtractiveResults : Prop :=
  ∀ (c : Cond) (sf : Bool) (rn rd : Reg) (o : Operand2) (s : State), Passes c s → ¬(sf = true ∧ rd = 15) →
    let a := operand1 s rn
    let b := (operand2 s o).value
    (∃ r : Word, r.toNat = (a.toNat + (~~~b).toNat + 1) % 2 ^ 32 ∧
      AluEffect (.sub c sf rn rd o) s rd sf r (decide (b.toNat ≤ a.toNat)) (decide (r.toInt ≠ a.toInt - b.toInt))) ∧
    (∃ r : Word, r.toNat = (b.toNat + (~~~a).toNat + 1) % 2 ^ 32 ∧
      AluEffect (.rsb c sf rn rd o) s rd sf r (decide (a.toNat ≤ b.toNat)) (decide (r.toInt ≠ b.toInt - a.toInt))) ∧
    (∃ r : Word, r.toNat = (a.toNat + (~~~b).toNat + s.flagC.toNat) % 2 ^ 32 ∧
      AluEffect (.sbc c sf rn rd o) s rd sf r (decide (2 ^ 32 ≤ a.toNat + (~~~b).toNat + s.flagC.toNat))
        (decide (r.toInt ≠ a.toInt - b.toInt - (1 - s.flagC.toNat)))) ∧
    (∃ r : Word, r.toNat = (b.toNat + (~~~a).toNat + s.flagC.toNat) % 2 ^ 32 ∧
      AluEffect (.rsc c sf rn rd o) s rd sf r (decide (2 ^ 32 ≤ b.toNat + (~~~a).toNat + s.flagC.toNat))
        (decide (r.toInt ≠ b.toInt - a.toInt - (1 - s.flagC.toNat))))

/-- 42_data_processing.md R198 to R201: TST, TEQ, CMP and CMN write the flags of their results and nothing
else. -/
def Obligations.CompareResults : Prop :=
  ∀ (c : Cond) (rn : Reg) (o : Operand2) (s : State), Passes c s →
    let a := operand1 s rn
    let b := (operand2 s o).value
    let sc := (operand2 s o).cout
    CompareEffect (.tst c rn o) s (a &&& b) sc s.flagV ∧
    CompareEffect (.teq c rn o) s (a ^^^ b) sc s.flagV ∧
    CompareEffect (.cmp c rn o) s (a - b) (decide (b.toNat ≤ a.toNat)) (decide ((a - b).toInt ≠ a.toInt - b.toInt)) ∧
    CompareEffect (.cmn c rn o) s (a + b) (decide (2 ^ 32 ≤ a.toNat + b.toNat))
      (decide ((a + b).toInt ≠ a.toInt + b.toInt))

/-- 42_data_processing.md R184, R185, 30_encoding.md R105: the words of the format without a meaning end with
their faults when the condition passes, and nothing has changed. Rests on the spec's own decisions D10, D46
(92_eei_decisions.md). -/
def Obligations.DataProcessingFaults : Prop :=
  ∀ (c : Cond) (b : Body) (rn : Reg) (o : Operand2) (s : State), Passes c s →
    exec (.unimplPsrTransfer c b) s = .fault (.unimplemented .psrTransfer s) ∧
    exec (.unimplFlagsWithPcDest c b) s = .fault (.unimplemented .flagsWithPcDest s) ∧
    exec (.unimplBadShiftEncoding c b) s = .fault (.unimplemented .badShiftEncoding s) ∧
    ∀ i ∈ ([.and c true rn 15 o, .eor c true rn 15 o, .sub c true rn 15 o, .rsb c true rn 15 o, .add c true rn 15 o,
        .adc c true rn 15 o, .sbc c true rn 15 o, .rsc c true rn 15 o, .orr c true rn 15 o, .mov c true 15 o,
        .bic c true rn 15 o, .mvn c true 15 o] : List Instr),
      exec i s = .fault (.unimplemented .flagsWithPcDest s)

/-! ## Multiply -/

/-- 43_multiply.md R221, R222, R226, R227: MUL and MLA, the low 32 bits of the exact product; with a
destination of 15 the flags are skipped and the write happens. Rests on the spec's own decision D13
(92_eei_decisions.md; log entry 17): which bit N takes is R226's supply from general knowledge, and the write
to register 15 is R227's derivation. -/
def Obligations.MultiplyResults : Prop :=
  ∀ (c : Cond) (sf : Bool) (rd rn rs rm : Reg) (s : State), Passes c s →
    (∃ r : Word, r.toNat = (mulOperand s rm).toNat * (mulOperand s rs).toNat % 2 ^ 32 ∧
      MulEffect (.mul c sf rd rs rm) s sf rd r) ∧
    (∃ r : Word, r.toNat =
        ((mulOperand s rm).toNat * (mulOperand s rs).toNat + (mulOperand s rn).toNat) % 2 ^ 32 ∧
      MulEffect (.mla c sf rd rn rs rm) s sf rd r)

/-- 43_multiply.md R223 to R226, R228, R230: the long forms, the exact product of the unsigned or signed
operands, the 64-bit accumulation modulo 2^64. Rests on the spec's own decision D13 (92_eei_decisions.md). -/
def Obligations.LongMultiplyResults : Prop :=
  ∀ (c : Cond) (sf : Bool) (hi lo rs rm : Reg) (s : State), Passes c s →
    let a := mulOperand s rm
    let b := mulOperand s rs
    let acc : Nat := (mulOperand s hi).toNat * 2 ^ 32 + (mulOperand s lo).toNat
    (∃ p : Dword, p.toNat = a.toNat * b.toNat ∧ MulLongEffect (.umull c sf hi lo rs rm) s sf hi lo p) ∧
    (∃ p : Dword, p.toNat = (a.toNat * b.toNat + acc) % 2 ^ 64 ∧
      MulLongEffect (.umlal c sf hi lo rs rm) s sf hi lo p) ∧
    (∃ p : Dword, p.toInt = a.toInt * b.toInt ∧ MulLongEffect (.smull c sf hi lo rs rm) s sf hi lo p) ∧
    (∃ p : Dword, (p.toNat : Int) = (a.toInt * b.toInt + acc) % 2 ^ 64 ∧
      MulLongEffect (.smlal c sf hi lo rs rm) s sf hi lo p)

/-! ## Single transfers and swap -/

/-- 44_single_transfer.md R240, R241, R243, R245 to R247, R249, R250, R256: the loads, wherever their bytes can
be read: the number every offset form gives (30_encoding.md R101, R102), the value, the address of every `P`,
`U`, `W`, and the write-back. Rests on the spec's own decisions D14, D15 (92_eei_decisions.md). -/
def Obligations.LoadResults : Prop :=
  ∀ (c : Cond) (ix : Index) (rn rd : Reg) (off : SdtOffset) (hoff : HdtOffset) (s : State), Passes c s →
    let a := sdtAddress s ix rn off
    let h := hdtAddress s ix rn hoff
    let base := s.rd rn s.setup.off.sdtBase
    let hbase := s.rd rn s.setup.off.hdtBase
    TransferOffsets s ∧
    (a.target = (if ix.u then base + sdtOffset s off else base - sdtOffset s off) ∧
      a.addr = (if ix.p then a.target else base) ∧ (a.wb = true ↔ ix.p = false ∨ ix.w = true)) ∧
    (h.target = (if ix.u then hbase + hdtOffset s hoff else hbase - hdtOffset s hoff) ∧
      h.addr = (if ix.p then h.target else hbase) ∧ (h.wb = true ↔ ix.p = false ∨ ix.w = true)) ∧
    (Allowed s a.addr 4 .read →
      ∃ v : Word, v.toNat = s.mem.readN a.addr.toNat 4 ∧ LoadEffect (.ldr c ix rn rd off) s a rn rd v) ∧
    (Allowed s a.addr 1 .read →
      ∃ v : Word, v.toNat = s.mem.readN a.addr.toNat 1 ∧ LoadEffect (.ldrb c ix rn rd off) s a rn rd v) ∧
    (Allowed s h.addr 2 .read →
      ∃ v : Word, v.toNat = s.mem.readN h.addr.toNat 2 ∧ LoadEffect (.ldrh c ix rn rd hoff) s h rn rd v) ∧
    (Allowed s h.addr 1 .read →
      ∃ v : Word, v.toInt = (BitVec.ofNat 8 (s.mem.readN h.addr.toNat 1)).toInt ∧
        LoadEffect (.ldrsb c ix rn rd hoff) s h rn rd v) ∧
    (Allowed s h.addr 2 .read →
      ∃ v : Word, v.toInt = (BitVec.ofNat 16 (s.mem.readN h.addr.toNat 2)).toInt ∧
        LoadEffect (.ldrsh c ix rn rd hoff) s h rn rd v)

/-- 44_single_transfer.md R242, R244, R245, R248: the stores, wherever their bytes can be written: the number
every offset form gives (30_encoding.md R101, R102), and the low bytes of the register, read before the
write-back. Rests on the spec's own decision D15 (92_eei_decisions.md). -/
def Obligations.StoreResults : Prop :=
  ∀ (c : Cond) (ix : Index) (rn rd : Reg) (off : SdtOffset) (hoff : HdtOffset) (s : State), Passes c s → Invariant s →
    let a := sdtAddress s ix rn off
    let h := hdtAddress s ix rn hoff
    TransferOffsets s ∧
    (Allowed s a.addr 4 .write →
      StoreEffect (.str c ix rn rd off) s a 4 rn (s.rd rd s.setup.off.sdtStore)) ∧
    (Allowed s a.addr 1 .write →
      StoreEffect (.strb c ix rn rd off) s a 1 rn (s.rd rd s.setup.off.sdtStore)) ∧
    (Allowed s h.addr 2 .write →
      StoreEffect (.strh c ix rn rd hoff) s h 2 rn (s.rd rd s.setup.off.hdtStore))

/-- 44_single_transfer.md R251, R254: an access the port turns away ends the instruction with the port's fault
at the exact address and width, nothing written; the halfword words without a meaning end with theirs. Rests
on the spec's own decisions D15, D16 (92_eei_decisions.md). -/
def Obligations.SingleTransferFaults : Prop :=
  ∀ (c : Cond) (ix : Index) (rn rd : Reg) (off : SdtOffset) (hoff : HdtOffset) (b : Body) (f : MemFault) (s : State),
    Passes c s →
    let a := (sdtAddress s ix rn off).addr
    let h := (hdtAddress s ix rn hoff).addr
    (checkAccess s a 4 .read = some f → exec (.ldr c ix rn rd off) s = .fault (.memory f s)) ∧
    (checkAccess s a 1 .read = some f → exec (.ldrb c ix rn rd off) s = .fault (.memory f s)) ∧
    (checkAccess s a 4 .write = some f → exec (.str c ix rn rd off) s = .fault (.memory f s)) ∧
    (checkAccess s a 1 .write = some f → exec (.strb c ix rn rd off) s = .fault (.memory f s)) ∧
    (checkAccess s h 2 .read = some f → exec (.ldrh c ix rn rd hoff) s = .fault (.memory f s)) ∧
    (checkAccess s h 1 .read = some f → exec (.ldrsb c ix rn rd hoff) s = .fault (.memory f s)) ∧
    (checkAccess s h 2 .read = some f → exec (.ldrsh c ix rn rd hoff) s = .fault (.memory f s)) ∧
    (checkAccess s h 2 .write = some f → exec (.strh c ix rn rd hoff) s = .fault (.memory f s)) ∧
    exec (.unimplHalfwordSH00 c b) s = .fault (.unimplemented .halfwordSH00 s) ∧
    exec (.unimplHalfwordSignedStore c b) s = .fault (.unimplemented .halfwordSignedStore s)

/-- 44_single_transfer.md R252, R253: the swaps; if the read or the write is turned away, nothing is written,
the destination included. Rests on the spec's own decision D17 (92_eei_decisions.md). -/
def Obligations.SwapResults : Prop :=
  ∀ (c : Cond) (rn rd rm : Reg) (f : MemFault) (s : State), Passes c s → Invariant s →
    let a := s.rd rn s.setup.off.swp
    let src := s.rd rm s.setup.off.swp
    ∀ p ∈ ([(.swp c rn rd rm, 4), (.swpb c rn rd rm, 1)] : List (Instr × Nat)),
      (Allowed s a p.2 .read → Allowed s a p.2 .write →
        ∃ t, exec p.1 s = .next t ∧ (t.reg rd).toNat = s.mem.readN a.toNat p.2 ∧
          t.mem.readN a.toNat p.2 = src.toNat % 256 ^ p.2 ∧ OnlyStores a p.2 [rd] s t) ∧
      (checkAccess s a p.2 .read = some f → exec p.1 s = .fault (.memory f s)) ∧
      (Allowed s a p.2 .read → checkAccess s a p.2 .write = some f → exec p.1 s = .fault (.memory f s))

/-! ## Block transfers -/

/-- 45_block_transfer.md R280, R281, R283, R285, R286, R289, R290: the four load modes. Rests on the spec's
own decisions D18, D19 (92_eei_decisions.md). -/
def Obligations.LoadMultipleResults : Prop :=
  ∀ (c : Cond) (w : Bool) (rn : Reg) (list : BitVec 16) (s : State), Passes c s →
    LdmEffect (.ldmia c w rn list) false true w rn list s ∧
    LdmEffect (.ldmib c w rn list) true true w rn list s ∧
    LdmEffect (.ldmda c w rn list) false false w rn list s ∧
    LdmEffect (.ldmdb c w rn list) true false w rn list s

/-- 45_block_transfer.md R280, R282, R283, R285, R286, R289, R290: the four store modes. Rests on the spec's
own decisions D18, D19 (92_eei_decisions.md). -/
def Obligations.StoreMultipleResults : Prop :=
  ∀ (c : Cond) (w : Bool) (rn : Reg) (list : BitVec 16) (s : State), Passes c s → Invariant s →
    StmEffect (.stmia c w rn list) false true w rn list s ∧
    StmEffect (.stmib c w rn list) true true w rn list s ∧
    StmEffect (.stmda c w rn list) false false w rn list s ∧
    StmEffect (.stmdb c w rn list) true false w rn list s

/-- 45_block_transfer.md R284, R288: a transfer the port turns away ends the instruction with the transfers
before it done and no write-back; the S bit ends it before any access. Rests on the spec's own decision D20
(92_eei_decisions.md). -/
def Obligations.BlockTransferStops : Prop :=
  ∀ (c : Cond) (w : Bool) (rn : Reg) (list : BitVec 16) (b : Body) (s : State), Passes c s → Invariant s →
    LdmStopsAt (.ldmia c w rn list) false true rn list s ∧
    LdmStopsAt (.ldmib c w rn list) true true rn list s ∧
    LdmStopsAt (.ldmda c w rn list) false false rn list s ∧
    LdmStopsAt (.ldmdb c w rn list) true false rn list s ∧
    StmStopsAt (.stmia c w rn list) false true rn list s ∧
    StmStopsAt (.stmib c w rn list) true true rn list s ∧
    StmStopsAt (.stmda c w rn list) false false rn list s ∧
    StmStopsAt (.stmdb c w rn list) true false rn list s ∧
    exec (.unimplBlockTransferSBit c b) s = .fault (.unimplemented .blockTransferSBit s)

/-- 45_block_transfer.md R287: a store multiple and the load multiple of the complementary mode, both with
write-back, restore every listed register and the base, in both memory variants wherever the span can be written
and read. R287 is the spec's own derivation from R289. -/
def Obligations.BlockTransferPairing : Prop :=
  ∀ (c d : Cond) (rn : Reg) (list : BitVec 16) (s : State), Passes c s → Invariant s →
    list.getLsbD rn.toNat = false → list.getLsbD 15 = false → (rn = 15 → s.setup.off.bdtBase = 0) →
    Pairs (.stmia c true rn list) (.ldmdb d true rn list) false true rn list s ∧
    Pairs (.stmib c true rn list) (.ldmda d true rn list) true true rn list s ∧
    Pairs (.stmda c true rn list) (.ldmib d true rn list) false false rn list s ∧
    Pairs (.stmdb c true rn list) (.ldmia d true rn list) true false rn list s

/-! ## Branches and SWI -/

/-- 46_branch.md R300 to R302: the targets, the link, and nothing else. Rests on the spec's own decisions D1,
D11 (92_eei_decisions.md). -/
def Obligations.BranchResults : Prop :=
  ∀ (c : Cond) (imm24 : BitVec 24) (rm : Reg) (s : State), Passes c s →
    let target := BitVec.ofInt 32 ((s.pc.toNat : Int) + s.setup.off.branch + 4 * imm24.toInt)
    RegEffect (.b c imm24) s 15 target ∧
    (∃ t, exec (.bl c imm24) s = .next t ∧ t.pc = target ∧ t.reg 14 = s.pc + BitVec.ofNat 32 s.setup.off.link ∧
      OnlyRegs [14, 15] s t) ∧
    RegEffect (.bx c rm) s 15 (s.rd rm s.setup.off.bx)

/-- 47_system.md R320, 60_exceptions.md R433, R437: SWI ends the run with what `SWI_MAP` gives its comment,
whatever that is, and changes nothing else; the next step is that of a run that goes on. Rests on the spec's
own decisions D21, D36 (92_eei_decisions.md); that an Exit is a next state is log entry 3. -/
def Obligations.SwiExitsAndResumes : Prop :=
  ∀ (c : Cond) (comment : BitVec 24) (s : State), Passes c s →
    exec (.swi c comment) s = .next { s with run := .exited (Config.swiMap comment) } ∧
    step { s with run := .exited (Config.swiMap comment) } = step { s with run := .running }

/-! ## The VFP unit -/

/-- 10_state.md R31, 49_vfp.md R360: the single and the double view alias one storage. -/
def Obligations.RegisterAliasing : Prop :=
  ∀ (s : State) (i j : DReg) (v : Word) (d : Dword),
    s.dreg i = s.sreg (highSlot i) ++ s.sreg (lowSlot i) ∧
    (lowSlot i).toNat = 2 * i.toNat ∧ (highSlot i).toNat = 2 * i.toNat + 1 ∧
    (s.setSReg (lowSlot i) v).dreg i = (s.dreg i).extractLsb' 32 32 ++ v ∧
    (s.setSReg (highSlot i) v).dreg i = v ++ (s.dreg i).extractLsb' 0 32 ∧
    (s.setDReg i d).sreg (lowSlot i) = d.extractLsb' 0 32 ∧
    (s.setDReg i d).sreg (highSlot i) = d.extractLsb' 32 32 ∧
    (s.setDReg i d).dreg i = d ∧
    (i ≠ j → (s.setDReg i d).dreg j = s.dreg j ∧ (s.setSReg (lowSlot i) v).dreg j = s.dreg j ∧
      (s.setSReg (highSlot i) v).dreg j = s.dreg j)

/-- 49_vfp.md R370 to R379: the routing of the nine operations in both precisions, for every `FPNUM`. Rests on
the spec's own decision D25 (92_eei_decisions.md; log entry 7), which leaves `FPNUM` free; that a
multiply-accumulate rounds its product before the sum is R371's supply from general knowledge. -/
def Obligations.VfpArithmetic : Prop :=
  ∀ (c : Cond) (d n m : SReg) (e p q : DReg) (s : State), VfpRuns c s →
    let a := s.sreg d
    let x := Config.mul32 (s.sreg n) (s.sreg m)
    let b := s.dreg e
    let y := Config.mul64 (s.dreg p) (s.dreg q)
    let flip : Word := 0x80000000
    let flip64 : Dword := 0x8000000000000000
    SingleEffect (.fmacs c d n m) s d (Config.add32 a x) ∧
    SingleEffect (.fnmacs c d n m) s d (Config.add32 a (x ^^^ flip)) ∧
    SingleEffect (.fmscs c d n m) s d (Config.add32 (a ^^^ flip) x) ∧
    SingleEffect (.fnmscs c d n m) s d (Config.add32 (a ^^^ flip) (x ^^^ flip)) ∧
    SingleEffect (.fmuls c d n m) s d x ∧
    SingleEffect (.fnmuls c d n m) s d (x ^^^ flip) ∧
    SingleEffect (.fadds c d n m) s d (Config.add32 (s.sreg n) (s.sreg m)) ∧
    SingleEffect (.fsubs c d n m) s d (Config.sub32 (s.sreg n) (s.sreg m)) ∧
    SingleEffect (.fdivs c d n m) s d (Config.div32 (s.sreg n) (s.sreg m)) ∧
    DoubleEffect (.fmacd c e p q) s e (Config.add64 b y) ∧
    DoubleEffect (.fnmacd c e p q) s e (Config.add64 b (y ^^^ flip64)) ∧
    DoubleEffect (.fmscd c e p q) s e (Config.add64 (b ^^^ flip64) y) ∧
    DoubleEffect (.fnmscd c e p q) s e (Config.add64 (b ^^^ flip64) (y ^^^ flip64)) ∧
    DoubleEffect (.fmuld c e p q) s e y ∧
    DoubleEffect (.fnmuld c e p q) s e (y ^^^ flip64) ∧
    DoubleEffect (.faddd c e p q) s e (Config.add64 (s.dreg p) (s.dreg q)) ∧
    DoubleEffect (.fsubd c e p q) s e (Config.sub64 (s.dreg p) (s.dreg q)) ∧
    DoubleEffect (.fdivd c e p q) s e (Config.div64 (s.dreg p) (s.dreg q))

/-- 49_vfp.md R381 to R383: copy, absolute value and negate on the bits: the sign bit kept, cleared or
flipped, every other bit copied. That NaNs are included is R382's and R383's own supply from general
knowledge. -/
def Obligations.VfpSignOperations : Prop :=
  ∀ (c : Cond) (d m : SReg) (e q : DReg) (s : State), VfpRuns c s →
    let x := (s.sreg m).extractLsb' 0 31
    let y := (s.dreg q).extractLsb' 0 63
    SingleEffect (.fcpys c d m) s d (s.sreg m) ∧
    SingleEffect (.fabss c d m) s d ((0#1 ++ x).setWidth 32) ∧
    SingleEffect (.fnegs c d m) s d ((BitVec.ofBool (!(s.sreg m).getLsbD 31) ++ x).setWidth 32) ∧
    DoubleEffect (.fcpyd c e q) s e (s.dreg q) ∧
    DoubleEffect (.fabsd c e q) s e ((0#1 ++ y).setWidth 64) ∧
    DoubleEffect (.fnegd c e q) s e ((BitVec.ofBool (!(s.dreg q).getLsbD 63) ++ y).setWidth 64)

/-- 49_vfp.md R384, R389 to R395: square root and the conversions: which register each reads and writes, for
every `FPNUM`. Rests on the spec's own decisions D25, D40 (92_eei_decisions.md). -/
def Obligations.VfpConversions : Prop :=
  ∀ (c : Cond) (d m : SReg) (e q : DReg) (s : State), VfpRuns c s →
    SingleEffect (.fsqrts c d m) s d (Config.sqrt32 (s.sreg m)) ∧
    DoubleEffect (.fsqrtd c e q) s e (Config.sqrt64 (s.dreg q)) ∧
    DoubleEffect (.fcvtds c e m) s e (Config.f32ToF64 (s.sreg m)) ∧
    SingleEffect (.fcvtsd c d q) s d (Config.f64ToF32 (s.dreg q)) ∧
    SingleEffect (.fuitos c d m) s d (Config.u32ToF32 (s.sreg m)) ∧
    DoubleEffect (.fuitod c e m) s e (Config.u32ToF64 (s.sreg m)) ∧
    SingleEffect (.fsitos c d m) s d (Config.s32ToF32 (s.sreg m)) ∧
    DoubleEffect (.fsitod c e m) s e (Config.s32ToF64 (s.sreg m)) ∧
    SingleEffect (.ftouis c d m) s d (Config.f32ToU32R (s.sreg m)) ∧
    SingleEffect (.ftouid c d q) s d (Config.f64ToU32R (s.dreg q)) ∧
    SingleEffect (.ftosis c d m) s d (Config.f32ToS32R (s.sreg m)) ∧
    SingleEffect (.ftosid c d q) s d (Config.f64ToS32R (s.dreg q)) ∧
    SingleEffect (.ftouizs c d m) s d (f32ToU32Z (s.sreg m)) ∧
    SingleEffect (.ftouizd c d q) s d (f64ToU32Z (s.dreg q)) ∧
    SingleEffect (.ftosizs c d m) s d (f32ToS32Z (s.sreg m)) ∧
    SingleEffect (.ftosizd c d q) s d (f64ToS32Z (s.dreg q))

/-- 49_vfp.md R385 to R388, R420: the compares: the class's four bits in FPSCR and, mirrored, in CPSR. Rests
on the spec's own decision D41 (92_eei_decisions.md; log entry 19): all four bits of both registers are
overwritten and the rest kept. -/
def Obligations.VfpCompares : Prop :=
  ∀ (c : Cond) (d m : SReg) (e q : DReg) (s : State), VfpRuns c s →
    let k := fpClass fpSingle (s.sreg d).toNat (s.sreg m).toNat
    let k0 := fpClass fpSingle (s.sreg d).toNat 0
    let l := fpClass fpDouble (s.dreg e).toNat (s.dreg q).toNat
    let l0 := fpClass fpDouble (s.dreg e).toNat 0
    CompareClassEffect (.fcmps c d m) s k ∧ CompareClassEffect (.fcmpes c d m) s k ∧
    CompareClassEffect (.fcmpzs c d) s k0 ∧ CompareClassEffect (.fcmpezs c d) s k0 ∧
    CompareClassEffect (.fcmpd c e q) s l ∧ CompareClassEffect (.fcmped c e q) s l ∧
    CompareClassEffect (.fcmpzd c e) s l0 ∧ CompareClassEffect (.fcmpezd c e) s l0

/-- 49_vfp.md R421: the class of a pair is the order of the values: unordered iff one is a NaN; finite
patterns by their rational values; an infinity beyond every finite value of its sign's side. The
classification is R421's own supply from general knowledge. -/
def Obligations.CompareClassIsOrder : Prop :=
  ∀ f ∈ [fpSingle, fpDouble], ∀ a b : Nat,
    (fpIsNan f a = true ↔ isSpecial f a = true ∧ fpFraction f a ≠ 0) ∧
    (fpClass f a b = .unordered ↔ fpIsNan f a = true ∨ fpIsNan f b = true) ∧
    (isSpecial f a = false → isSpecial f b = false →
      (fpClass f a b = .lt ↔ ratValue f a < ratValue f b) ∧ (fpClass f a b = .eq ↔ ratValue f a = ratValue f b) ∧
      (fpClass f a b = .gt ↔ ratValue f b < ratValue f a)) ∧
    (isSpecial f a = true → fpIsNan f a = false → isSpecial f b = false →
      fpClass f a b = (if fpSign f a then .lt else .gt) ∧ fpClass f b a = (if fpSign f a then .gt else .lt)) ∧
    (isSpecial f a = true → fpIsNan f a = false → isSpecial f b = true → fpIsNan f b = false →
      fpClass f a b = if fpSign f a = fpSign f b then .eq else if fpSign f a then .lt else .gt)

/-- 49_vfp.md R422: for a pattern that is a number whose value, rounded toward zero, is in the range of the
destination, the truncating conversions return it, whatever `FPNUM` is. Rests on the spec's own decision D25
(92_eei_decisions.md). -/
def Obligations.TruncatingConversions : Prop :=
  (∀ w : Word, isSpecial fpSingle w.toNat = false →
    let v := trunc (ratValue fpSingle w.toNat)
    (0 ≤ v → v ≤ 2 ^ 32 - 1 → ((f32ToU32Z w).toNat : ℤ) = v) ∧
    (-2 ^ 31 ≤ v → v ≤ 2 ^ 31 - 1 → (f32ToS32Z w).toInt = v)) ∧
  (∀ w : Dword, isSpecial fpDouble w.toNat = false →
    let v := trunc (ratValue fpDouble w.toNat)
    (0 ≤ v → v ≤ 2 ^ 32 - 1 → ((f64ToU32Z w).toNat : ℤ) = v) ∧
    (-2 ^ 31 ≤ v → v ≤ 2 ^ 31 - 1 → (f64ToS32Z w).toInt = v))

/-- 49_vfp.md R396 to R398, R400 to R403, R405: the register transfers, both halves of a double apart, and the
read of FPSID. Rests on the spec's own decisions D27, D29 (92_eei_decisions.md). -/
def Obligations.VfpRegisterMoves : Prop :=
  ∀ (c : Cond) (n : SReg) (e : DReg) (rd : Reg) (s : State), VfpRuns c s →
    let x := s.rd rd s.setup.off.cop
    SingleEffect (.fmsr c n rd) s n x ∧
    RegEffect (.fmrs c n rd) s rd (s.sreg n) ∧
    DoubleEffect (.fmdlr c e rd) s e ((s.dreg e).extractLsb' 32 32 ++ x) ∧
    RegEffect (.fmrdl c e rd) s rd ((s.dreg e).extractLsb' 0 32) ∧
    DoubleEffect (.fmdhr c e rd) s e (x ++ (s.dreg e).extractLsb' 0 32) ∧
    RegEffect (.fmrdh c e rd) s rd ((s.dreg e).extractLsb' 32 32) ∧
    RegEffect (.fmrx c 0 rd) s rd s.setup.fpsid

/-- 49_vfp.md R406 to R409: the two-register transfers; of equal general destinations the second write
remains; a pair that would start at `s31` faults. Rests on the spec's own decision D30 (92_eei_decisions.md). -/
def Obligations.VfpTwoRegisterMoves : Prop :=
  ∀ (c : Cond) (rn rd : Reg) (m : SReg) (e : DReg) (s : State), VfpRuns c s →
    let x := s.rd rd s.setup.off.cop
    let y := s.rd rn s.setup.off.cop
    DoubleEffect (.fmdrr c rn rd e) s e (y ++ x) ∧
    (∃ t, exec (.fmrrd c rn rd e) s = .next t ∧ t.reg rn = (s.dreg e).extractLsb' 32 32 ∧
      (rd ≠ rn → t.reg rd = (s.dreg e).extractLsb' 0 32) ∧ OnlyRegs [rd, rn] s t) ∧
    (m.toNat < 31 →
      (∃ t, exec (.fmsrr c rn rd m) s = .next t ∧ t.sreg m = x ∧ t.sreg (m + 1) = y ∧ OnlySlots [m, m + 1] s t) ∧
      (∃ t, exec (.fmrrs c rn rd m) s = .next t ∧ t.reg rn = s.sreg (m + 1) ∧
        (rd ≠ rn → t.reg rd = s.sreg m) ∧ OnlyRegs [rd, rn] s t)) ∧
    (m.toNat = 31 →
      exec (.fmsrr c rn rd m) s = .fault (.unimplemented .vfpRegister s) ∧
      exec (.fmrrs c rn rd m) s = .fault (.unimplemented .vfpRegister s))

/-- 49_vfp.md R410 to R413, R418: the single-register loads and stores, a double as one access of 8 bytes; an
access the port turns away ends them with its fault and nothing changed. Rests on the spec's own decisions
D28, D29 (92_eei_decisions.md). -/
def Obligations.VfpLoadsAndStores : Prop :=
  ∀ (c : Cond) (u : Bool) (rn : Reg) (d : SReg) (e : DReg) (off : BitVec 8) (f : MemFault) (s : State),
    VfpRuns c s → Invariant s →
    let base := s.rd rn s.setup.off.cop
    let a := if u then base + BitVec.ofNat 32 (4 * off.toNat) else base - BitVec.ofNat 32 (4 * off.toNat)
    (Allowed s a 4 .read → SingleEffect (.flds c u rn d off) s d (BitVec.ofNat 32 (s.mem.readN a.toNat 4))) ∧
    (Allowed s a 8 .read → DoubleEffect (.fldd c u rn e off) s e (BitVec.ofNat 64 (s.mem.readN a.toNat 8))) ∧
    (Allowed s a 4 .write → VfpStoreEffect (.fsts c u rn d off) s a 4 (s.sreg d).toNat) ∧
    (Allowed s a 8 .write → VfpStoreEffect (.fstd c u rn e off) s a 8 (s.dreg e).toNat) ∧
    (checkAccess s a 4 .read = some f → exec (.flds c u rn d off) s = .fault (.memory f s)) ∧
    (checkAccess s a 8 .read = some f → exec (.fldd c u rn e off) s = .fault (.memory f s)) ∧
    (checkAccess s a 4 .write = some f → exec (.fsts c u rn d off) s = .fault (.memory f s)) ∧
    (checkAccess s a 8 .write = some f → exec (.fstd c u rn e off) s = .fault (.memory f s))

/-- 49_vfp.md R414, R415, R418, R419: the multiple transfers in each mode that `VFP_DT_MODES` has: the registers
and words in ascending order from the start, the base written back in the modes that write it; and what one
leaves when the port turns away a transfer (60_exceptions.md R434): the transfers before it done, no write-back.
Rests on the spec's own decisions D28 and, for what a failing one leaves, D20 (92_eei_decisions.md). -/
def Obligations.VfpMultipleTransfers : Prop :=
  ∀ (c : Cond) (w : Bool) (rn : Reg) (f : SReg) (g : DReg) (n : BitVec 8) (k : BitVec 7) (s : State),
    VfpRuns c s → Invariant s →
    let md : DtMode := if w then .iaw else .ia
    let words : BitVec 8 := k ++ 0#1
    (n ≠ 0 → f.toNat + n.toNat ≤ 32 →
      (hasMode s md = true →
        FldmEffect (.fldmias c w rn f n) md rn n 4 n.toNat (singleAt f) (singlesFrom f n.toNat) s ∧
        FstmEffect (.fstmias c w rn f n) md rn n 4 n.toNat (singleAt f) s ∧
        FldmStopsAt (.fldmias c w rn f n) md rn n 4 n.toNat (singleAt f) (singlesFrom f) s ∧
        FstmStopsAt (.fstmias c w rn f n) md rn n 4 n.toNat (singleAt f) s) ∧
      (hasMode s .dbw = true →
        FldmEffect (.fldmdbs c rn f n) .dbw rn n 4 n.toNat (singleAt f) (singlesFrom f n.toNat) s ∧
        FstmEffect (.fstmdbs c rn f n) .dbw rn n 4 n.toNat (singleAt f) s ∧
        FldmStopsAt (.fldmdbs c rn f n) .dbw rn n 4 n.toNat (singleAt f) (singlesFrom f) s ∧
        FstmStopsAt (.fstmdbs c rn f n) .dbw rn n 4 n.toNat (singleAt f) s)) ∧
    (k ≠ 0 → g.toNat + k.toNat ≤ 16 →
      (hasMode s md = true →
        FldmEffect (.fldmiad c w rn g k) md rn words 8 k.toNat (doubleAt g) (doublesFrom g k.toNat) s ∧
        FstmEffect (.fstmiad c w rn g k) md rn words 8 k.toNat (doubleAt g) s ∧
        FldmStopsAt (.fldmiad c w rn g k) md rn words 8 k.toNat (doubleAt g) (doublesFrom g) s ∧
        FstmStopsAt (.fstmiad c w rn g k) md rn words 8 k.toNat (doubleAt g) s) ∧
      (hasMode s .dbw = true →
        FldmEffect (.fldmdbd c rn g k) .dbw rn words 8 k.toNat (doubleAt g) (doublesFrom g k.toNat) s ∧
        FstmEffect (.fstmdbd c rn g k) .dbw rn words 8 k.toNat (doubleAt g) s ∧
        FldmStopsAt (.fldmdbd c rn g k) .dbw rn words 8 k.toNat (doubleAt g) (doublesFrom g) s ∧
        FstmStopsAt (.fstmdbd c rn g k) .dbw rn words 8 k.toNat (doubleAt g) s))

/-- 49_vfp.md R399, R404, R416, R418, R419: the words of the unit without a meaning, the empty and overlong
register lists, and the modes outside `VFP_DT_MODES`, which always has Offset, each with its fault and nothing
changed. Rests on the spec's own decisions D27, D28, D30, D31 (92_eei_decisions.md). -/
def Obligations.VfpFaults : Prop :=
  ∀ (c : Cond) (b : Body) (rn rd : Reg) (fn : BitVec 4) (w : Bool) (f : SReg) (g : DReg) (n : BitVec 8)
    (k : BitVec 7) (s : State), VfpRuns c s →
    exec (.fmstat c) s = .fault (.unimplemented .vfpSystemRegister s) ∧
    exec (.fmxr c fn rd) s = .fault (.unimplemented .vfpSystemRegister s) ∧
    (fn ≠ 0 → exec (.fmrx c fn rd) s = .fault (.unimplemented .vfpSystemRegister s)) ∧
    exec (.unimplVfpOpcode c b) s = .fault (.unimplemented .vfpOpcode s) ∧
    exec (.unimplNoCoprocessor c b) s = .fault (.unimplemented .noCoprocessor s) ∧
    exec (.unimplVfpAddressingMode c b) s = .fault (.unimplemented .vfpAddressingMode s) ∧
    hasMode s .offset = true ∧
    ((∀ m, Body.isCdt b = true → Body.mode b = some m → hasMode s m = true) →
      exec (.unimplVfpRegister c b) s = .fault (.unimplemented .vfpRegister s) ∧
      exec (.unimplVfpRegisterList c b) s = .fault (.unimplemented .vfpRegisterList s)) ∧
    (∀ m, Body.isCdt b = true → Body.mode b = some m → hasMode s m = false →
      exec (.unimplVfpRegister c b) s = .fault (.unimplemented .vfpAddressingMode s) ∧
      exec (.unimplVfpRegisterList c b) s = .fault (.unimplemented .vfpAddressingMode s)) ∧
    (n = 0 ∨ 32 < f.toNat + n.toNat →
      (hasMode s (if w then .iaw else .ia) = true → ∀ i ∈ ([.fldmias c w rn f n, .fstmias c w rn f n] : List Instr),
        exec i s = .fault (.unimplemented .vfpRegisterList s)) ∧
      (hasMode s .dbw = true → ∀ i ∈ ([.fldmdbs c rn f n, .fstmdbs c rn f n] : List Instr),
        exec i s = .fault (.unimplemented .vfpRegisterList s))) ∧
    (k = 0 ∨ 16 < g.toNat + k.toNat →
      (hasMode s (if w then .iaw else .ia) = true → ∀ i ∈ ([.fldmiad c w rn g k, .fstmiad c w rn g k] : List Instr),
        exec i s = .fault (.unimplemented .vfpRegisterList s)) ∧
      (hasMode s .dbw = true → ∀ i ∈ ([.fldmdbd c rn g k, .fstmdbd c rn g k] : List Instr),
        exec i s = .fault (.unimplemented .vfpRegisterList s))) ∧
    (hasMode s (if w then .iaw else .ia) = false → ∀ i ∈ ([.fldmias c w rn f n, .fstmias c w rn f n,
        .fldmiad c w rn g k, .fstmiad c w rn g k] : List Instr),
      exec i s = .fault (.unimplemented .vfpAddressingMode s)) ∧
    (hasMode s .dbw = false → ∀ i ∈ ([.fldmdbs c rn f n, .fstmdbs c rn f n, .fldmdbd c rn g k,
        .fstmdbd c rn g k] : List Instr), exec i s = .fault (.unimplemented .vfpAddressingMode s))

/-! ## The coprocessor port -/

/-- 48_coprocessor_dispatch.md R331 to R334: with the VFP unit attached a generic coprocessor instruction does
exactly what the unit's own reading of its word does; one word of each kind completes as that. Rests on the
spec's own decisions D30 (92_eei_decisions.md); which decoded instruction carries the word is log entry 4. -/
def Obligations.GenericCoprocessor : Prop :=
  ∀ (i : Instr) (c : Cond) (u : Bool) (rn rd : Reg) (e n m off : BitVec 8) (s : State),
    (i.isGeneric = true → VfpRuns i.cond s → exec i s = exec (decodeVfp (encode i)) s) ∧
    (VfpRuns c s → Invariant s →
      let base := s.rd rn s.setup.off.cop
      let a := if u then base + BitVec.ofNat 32 (4 * off.toNat) else base - BitVec.ofNat 32 (4 * off.toNat)
      let fd := e.extractLsb' 0 4
      (Allowed s a 4 .read →
        SingleEffect (.ldc c true u false false rn fd 10 off) s (fd ++ 0#1)
          (BitVec.ofNat 32 (s.mem.readN a.toNat 4))) ∧
      (Allowed s a 4 .write →
        VfpStoreEffect (.stc c true u false false rn fd 10 off) s a 4 (s.sreg (fd ++ 0#1)).toNat) ∧
      SingleEffect (.cdp c 3 (n.extractLsb' 0 4) fd 10 0 (m.extractLsb' 0 4)) s (fd ++ 0#1)
        (Config.add32 (s.sreg (n.extractLsb' 0 4 ++ 0#1)) (s.sreg (m.extractLsb' 0 4 ++ 0#1))) ∧
      SingleEffect (.mcr c 0 fd rd 10 0 0) s (fd ++ 0#1) (s.rd rd s.setup.off.cop) ∧
      RegEffect (.mrc c 0 fd rd 10 0 0) s rd (s.sreg (fd ++ 0#1)))

/-- 48_coprocessor_dispatch.md R335: with no coprocessor attached, or with a coprocessor number that is not
the unit's, a coprocessor instruction ends with `NoCoprocessor` and nothing changed. Rests on the spec's own
decision D23 (92_eei_decisions.md). -/
def Obligations.NoCoprocessorFaults : Prop :=
  ∀ (i : Instr) (s : State), i.level = .vfp ∨ i.isGeneric = true → Passes i.cond s →
    (s.setup.coproc = .absent → exec i s = .fault (.unimplemented .noCoprocessor s)) ∧
    (i.isGeneric = true → isVfpWord (encode i) = false →
      exec i s = .fault (.unimplemented .noCoprocessor s))

/-! ## The run -/

/-- 60_exceptions.md R440: `runFor`, the loop with a number of iterations left, of two numbers one after the
other is that of their sum; with none left it makes no step (the call `run(0)` is another matter: it has no
bound); a step that completes without an SWI counts one; an SWI and a fault end it. A call returns `Resume` when
its budget is spent, an SWI's interrupt, or the fault, and never two results. Different interrupts have different
numbers, and so have different fault names: that `INT_CODE` and `FAULT_CODE` are injections stands in
92_eei_decisions.md section 1, and that they number the names of interrupts and of faults is log entry 10
(DEDUCED), which leaves open whether an interrupt and a fault share a number; two faults of one name do. Rests on
the spec's own decisions D5, D22 (92_eei_decisions.md), and on the model's choices that an SWI's end is a next
state with run state `exited` (log entry 3) and that `run(0)` is the relation `Returns` (log entry 23). -/
def Obligations.RunContract : Prop :=
  (∀ (n m : Nat) (s t : State),
    (runFor n s = .exhausted t → runFor (n + m) s = runFor m t) ∧
    runFor 0 s = .exhausted s ∧
    (step s = .next t → t.run = .running → runFor (n + 1) s = runFor n t) ∧
    (∀ i, step s = .next t → t.run = .exited i → runFor (n + 1) s = .exited i t) ∧
    (∀ f, step s = .fault f → runFor (n + 1) s = .faulted f)) ∧
  (∀ (max : Word) (s t : State) (i : Interrupt) (f : Fault) (r r' : RunResult),
    (max ≠ 0 → runFor max.toNat s.resume = .exhausted t → Returns max s (.interrupt .resume)) ∧
    (step s = .next t → t.run = .exited i → Returns max s (.interrupt i)) ∧
    (step s = .fault f → Returns max s (.fault f)) ∧
    (Returns max s r → Returns max s r' → r = r')) ∧
  (∀ i j : Interrupt, intCode i = intCode j → i = j) ∧ (∀ a b : FaultName, faultCode a = faultCode b → a = b)
end

