-- ==== Sys2Proof/Laws/State.lean ====
section
/-!
SUPPORT. What each update of the state leaves alone, field by field, and what a register reads after an
update of a register.
-/

namespace Sys2Proof.Machine

@[simp] theorem State.setReg_cpsr (s : State) (r : Reg) (v : Word) : (s.setReg r v).cpsr = s.cpsr := rfl
@[simp] theorem State.setReg_spsr (s : State) (r : Reg) (v : Word) : (s.setReg r v).spsr = s.spsr := rfl
@[simp] theorem State.setReg_slots (s : State) (r : Reg) (v : Word) : (s.setReg r v).slots = s.slots := rfl
@[simp] theorem State.setReg_fpscr (s : State) (r : Reg) (v : Word) : (s.setReg r v).fpscr = s.fpscr := rfl
@[simp] theorem State.setReg_fpexc (s : State) (r : Reg) (v : Word) : (s.setReg r v).fpexc = s.fpexc := rfl
@[simp] theorem State.setReg_mem (s : State) (r : Reg) (v : Word) : (s.setReg r v).mem = s.mem := rfl
@[simp] theorem State.setReg_ranges (s : State) (r : Reg) (v : Word) : (s.setReg r v).ranges = s.ranges := rfl
@[simp] theorem State.setReg_setup (s : State) (r : Reg) (v : Word) : (s.setReg r v).setup = s.setup := rfl
@[simp] theorem State.setReg_run (s : State) (r : Reg) (v : Word) : (s.setReg r v).run = s.run := rfl

@[simp] theorem State.setSReg_regs (s : State) (i : SReg) (v : Word) : (s.setSReg i v).regs = s.regs := rfl
@[simp] theorem State.setSReg_cpsr (s : State) (i : SReg) (v : Word) : (s.setSReg i v).cpsr = s.cpsr := rfl
@[simp] theorem State.setSReg_spsr (s : State) (i : SReg) (v : Word) : (s.setSReg i v).spsr = s.spsr := rfl
@[simp] theorem State.setSReg_fpscr (s : State) (i : SReg) (v : Word) : (s.setSReg i v).fpscr = s.fpscr := rfl
@[simp] theorem State.setSReg_fpexc (s : State) (i : SReg) (v : Word) : (s.setSReg i v).fpexc = s.fpexc := rfl
@[simp] theorem State.setSReg_mem (s : State) (i : SReg) (v : Word) : (s.setSReg i v).mem = s.mem := rfl
@[simp] theorem State.setSReg_ranges (s : State) (i : SReg) (v : Word) : (s.setSReg i v).ranges = s.ranges := rfl
@[simp] theorem State.setSReg_setup (s : State) (i : SReg) (v : Word) : (s.setSReg i v).setup = s.setup := rfl
@[simp] theorem State.setSReg_run (s : State) (i : SReg) (v : Word) : (s.setSReg i v).run = s.run := rfl

@[simp] theorem State.setFlags_regs (s : State) (n z c v : Bool) : (s.setFlags n z c v).regs = s.regs := rfl
@[simp] theorem State.setFlags_spsr (s : State) (n z c v : Bool) : (s.setFlags n z c v).spsr = s.spsr := rfl
@[simp] theorem State.setFlags_slots (s : State) (n z c v : Bool) : (s.setFlags n z c v).slots = s.slots := rfl
@[simp] theorem State.setFlags_fpscr (s : State) (n z c v : Bool) : (s.setFlags n z c v).fpscr = s.fpscr := rfl
@[simp] theorem State.setFlags_fpexc (s : State) (n z c v : Bool) : (s.setFlags n z c v).fpexc = s.fpexc := rfl
@[simp] theorem State.setFlags_mem (s : State) (n z c v : Bool) : (s.setFlags n z c v).mem = s.mem := rfl
@[simp] theorem State.setFlags_ranges (s : State) (n z c v : Bool) : (s.setFlags n z c v).ranges = s.ranges := rfl
@[simp] theorem State.setFlags_setup (s : State) (n z c v : Bool) : (s.setFlags n z c v).setup = s.setup := rfl
@[simp] theorem State.setFlags_run (s : State) (n z c v : Bool) : (s.setFlags n z c v).run = s.run := rfl

@[simp] theorem State.setNZ_regs (s : State) (n z : Bool) : (s.setNZ n z).regs = s.regs := rfl
@[simp] theorem State.setNZ_spsr (s : State) (n z : Bool) : (s.setNZ n z).spsr = s.spsr := rfl
@[simp] theorem State.setNZ_slots (s : State) (n z : Bool) : (s.setNZ n z).slots = s.slots := rfl
@[simp] theorem State.setNZ_fpscr (s : State) (n z : Bool) : (s.setNZ n z).fpscr = s.fpscr := rfl
@[simp] theorem State.setNZ_fpexc (s : State) (n z : Bool) : (s.setNZ n z).fpexc = s.fpexc := rfl
@[simp] theorem State.setNZ_mem (s : State) (n z : Bool) : (s.setNZ n z).mem = s.mem := rfl
@[simp] theorem State.setNZ_ranges (s : State) (n z : Bool) : (s.setNZ n z).ranges = s.ranges := rfl
@[simp] theorem State.setNZ_setup (s : State) (n z : Bool) : (s.setNZ n z).setup = s.setup := rfl
@[simp] theorem State.setNZ_run (s : State) (n z : Bool) : (s.setNZ n z).run = s.run := rfl

@[simp] theorem State.setAluFlags_regs (s : State) (r : AluOut) : (s.setAluFlags r).regs = s.regs := rfl
@[simp] theorem State.setAluFlags_spsr (s : State) (r : AluOut) : (s.setAluFlags r).spsr = s.spsr := rfl
@[simp] theorem State.setAluFlags_slots (s : State) (r : AluOut) : (s.setAluFlags r).slots = s.slots := rfl
@[simp] theorem State.setAluFlags_fpscr (s : State) (r : AluOut) : (s.setAluFlags r).fpscr = s.fpscr := rfl
@[simp] theorem State.setAluFlags_fpexc (s : State) (r : AluOut) : (s.setAluFlags r).fpexc = s.fpexc := rfl
@[simp] theorem State.setAluFlags_mem (s : State) (r : AluOut) : (s.setAluFlags r).mem = s.mem := rfl
@[simp] theorem State.setAluFlags_ranges (s : State) (r : AluOut) : (s.setAluFlags r).ranges = s.ranges := rfl
@[simp] theorem State.setAluFlags_setup (s : State) (r : AluOut) : (s.setAluFlags r).setup = s.setup := rfl
@[simp] theorem State.setAluFlags_run (s : State) (r : AluOut) : (s.setAluFlags r).run = s.run := rfl

@[simp] theorem State.setDReg_regs (s : State) (i : DReg) (v : Dword) : (s.setDReg i v).regs = s.regs := rfl
@[simp] theorem State.setDReg_cpsr (s : State) (i : DReg) (v : Dword) : (s.setDReg i v).cpsr = s.cpsr := rfl
@[simp] theorem State.setDReg_spsr (s : State) (i : DReg) (v : Dword) : (s.setDReg i v).spsr = s.spsr := rfl
@[simp] theorem State.setDReg_fpscr (s : State) (i : DReg) (v : Dword) : (s.setDReg i v).fpscr = s.fpscr := rfl
@[simp] theorem State.setDReg_fpexc (s : State) (i : DReg) (v : Dword) : (s.setDReg i v).fpexc = s.fpexc := rfl
@[simp] theorem State.setDReg_mem (s : State) (i : DReg) (v : Dword) : (s.setDReg i v).mem = s.mem := rfl
@[simp] theorem State.setDReg_ranges (s : State) (i : DReg) (v : Dword) : (s.setDReg i v).ranges = s.ranges := rfl
@[simp] theorem State.setDReg_setup (s : State) (i : DReg) (v : Dword) : (s.setDReg i v).setup = s.setup := rfl
@[simp] theorem State.setDReg_run (s : State) (i : DReg) (v : Dword) : (s.setDReg i v).run = s.run := rfl

@[simp] theorem State.resume_regs (s : State) : (s.resume).regs = s.regs := rfl
@[simp] theorem State.resume_cpsr (s : State) : (s.resume).cpsr = s.cpsr := rfl
@[simp] theorem State.resume_spsr (s : State) : (s.resume).spsr = s.spsr := rfl
@[simp] theorem State.resume_slots (s : State) : (s.resume).slots = s.slots := rfl
@[simp] theorem State.resume_fpscr (s : State) : (s.resume).fpscr = s.fpscr := rfl
@[simp] theorem State.resume_fpexc (s : State) : (s.resume).fpexc = s.fpexc := rfl
@[simp] theorem State.resume_mem (s : State) : (s.resume).mem = s.mem := rfl
@[simp] theorem State.resume_ranges (s : State) : (s.resume).ranges = s.ranges := rfl
@[simp] theorem State.resume_setup (s : State) : (s.resume).setup = s.setup := rfl

@[simp] theorem State.addAccessRange_regs (s : State) (r : AccessRange) : (s.addAccessRange r).regs = s.regs := rfl
@[simp] theorem State.addAccessRange_cpsr (s : State) (r : AccessRange) : (s.addAccessRange r).cpsr = s.cpsr := rfl
@[simp] theorem State.addAccessRange_spsr (s : State) (r : AccessRange) : (s.addAccessRange r).spsr = s.spsr := rfl
@[simp] theorem State.addAccessRange_slots (s : State) (r : AccessRange) : (s.addAccessRange r).slots = s.slots := rfl
@[simp] theorem State.addAccessRange_fpscr (s : State) (r : AccessRange) : (s.addAccessRange r).fpscr = s.fpscr := rfl
@[simp] theorem State.addAccessRange_fpexc (s : State) (r : AccessRange) : (s.addAccessRange r).fpexc = s.fpexc := rfl
@[simp] theorem State.addAccessRange_mem (s : State) (r : AccessRange) : (s.addAccessRange r).mem = s.mem := rfl
@[simp] theorem State.addAccessRange_setup (s : State) (r : AccessRange) : (s.addAccessRange r).setup = s.setup := rfl
@[simp] theorem State.addAccessRange_run (s : State) (r : AccessRange) : (s.addAccessRange r).run = s.run := rfl

@[simp] theorem State.compare_regs (s : State) (k : FpClass) : (s.compare k).regs = s.regs := by
  cases k <;> rfl
@[simp] theorem State.compare_spsr (s : State) (k : FpClass) : (s.compare k).spsr = s.spsr := by
  cases k <;> rfl
@[simp] theorem State.compare_slots (s : State) (k : FpClass) : (s.compare k).slots = s.slots := by
  cases k <;> rfl
@[simp] theorem State.compare_fpexc (s : State) (k : FpClass) : (s.compare k).fpexc = s.fpexc := by
  cases k <;> rfl
@[simp] theorem State.compare_mem (s : State) (k : FpClass) : (s.compare k).mem = s.mem := by
  cases k <;> rfl
@[simp] theorem State.compare_ranges (s : State) (k : FpClass) : (s.compare k).ranges = s.ranges := by
  cases k <;> rfl
@[simp] theorem State.compare_setup (s : State) (k : FpClass) : (s.compare k).setup = s.setup := by
  cases k <;> rfl
@[simp] theorem State.compare_run (s : State) (k : FpClass) : (s.compare k).run = s.run := by
  cases k <;> rfl

@[simp] theorem State.writeBack_cpsr (s : State) (a : Address) (rn : Reg) : (s.writeBack a rn).cpsr = s.cpsr := by
  unfold State.writeBack; split <;> rfl
@[simp] theorem State.writeBack_spsr (s : State) (a : Address) (rn : Reg) : (s.writeBack a rn).spsr = s.spsr := by
  unfold State.writeBack; split <;> rfl
@[simp] theorem State.writeBack_slots (s : State) (a : Address) (rn : Reg) : (s.writeBack a rn).slots = s.slots := by
  unfold State.writeBack; split <;> rfl
@[simp] theorem State.writeBack_fpscr (s : State) (a : Address) (rn : Reg) : (s.writeBack a rn).fpscr = s.fpscr := by
  unfold State.writeBack; split <;> rfl
@[simp] theorem State.writeBack_fpexc (s : State) (a : Address) (rn : Reg) : (s.writeBack a rn).fpexc = s.fpexc := by
  unfold State.writeBack; split <;> rfl
@[simp] theorem State.writeBack_mem (s : State) (a : Address) (rn : Reg) : (s.writeBack a rn).mem = s.mem := by
  unfold State.writeBack; split <;> rfl
@[simp] theorem State.writeBack_ranges (s : State) (a : Address) (rn : Reg) : (s.writeBack a rn).ranges = s.ranges := by
  unfold State.writeBack; split <;> rfl
@[simp] theorem State.writeBack_setup (s : State) (a : Address) (rn : Reg) : (s.writeBack a rn).setup = s.setup := by
  unfold State.writeBack; split <;> rfl
@[simp] theorem State.writeBack_run (s : State) (a : Address) (rn : Reg) : (s.writeBack a rn).run = s.run := by
  unfold State.writeBack; split <;> rfl

@[simp] theorem State.setFlags_cpsr (s : State) (n z c v : Bool) :
    (s.setFlags n z c v).cpsr = withTopBits s.cpsr n z c v := rfl
@[simp] theorem State.resume_run (s : State) : s.resume.run = .running := rfl
@[simp] theorem State.addAccessRange_ranges (s : State) (r : AccessRange) :
    (s.addAccessRange r).ranges = s.ranges ++ [r] := rfl

/-! ## Registers -/

theorem State.ext_reg {s t : State} (h : t.regs = s.regs) (r : Reg) : t.reg r = s.reg r := by
  simp only [State.reg, h]

theorem State.ext_sreg {s t : State} (h : t.slots = s.slots) (i : SReg) : t.sreg i = s.sreg i := by
  simp only [State.sreg, h]

@[simp] theorem State.reg_setReg (s : State) (r q : Reg) (v : Word) :
    (s.setReg r v).reg q = if r = q then v else s.reg q := by
  simp only [State.reg, State.setReg, Vector.getElem_set, BitVec.toNat_inj]

@[simp] theorem State.sreg_setSReg (s : State) (i j : SReg) (v : Word) :
    (s.setSReg i v).sreg j = if i = j then v else s.sreg j := by
  simp only [State.sreg, State.setSReg, Vector.getElem_set, BitVec.toNat_inj]

@[simp] theorem State.reg_setSReg (s : State) (i : SReg) (v : Word) (r : Reg) : (s.setSReg i v).reg r = s.reg r := rfl
@[simp] theorem State.reg_setFlags (s : State) (n z c v : Bool) (r : Reg) : (s.setFlags n z c v).reg r = s.reg r := rfl
@[simp] theorem State.reg_setNZ (s : State) (n z : Bool) (r : Reg) : (s.setNZ n z).reg r = s.reg r := rfl
@[simp] theorem State.reg_setAluFlags (s : State) (x : AluOut) (r : Reg) : (s.setAluFlags x).reg r = s.reg r := rfl
@[simp] theorem State.reg_setDReg (s : State) (i : DReg) (v : Dword) (r : Reg) : (s.setDReg i v).reg r = s.reg r := rfl
@[simp] theorem State.reg_resume (s : State) (r : Reg) : (s.resume).reg r = s.reg r := rfl
@[simp] theorem State.reg_compare (s : State) (k : FpClass) (r : Reg) : (s.compare k).reg r = s.reg r :=
  State.ext_reg (State.compare_regs s k) r
@[simp] theorem State.sreg_setReg (s : State) (r : Reg) (v : Word) (i : SReg) : (s.setReg r v).sreg i = s.sreg i := rfl
@[simp] theorem State.sreg_setFlags (s : State) (n z c v : Bool) (i : SReg) : (s.setFlags n z c v).sreg i = s.sreg i := rfl
@[simp] theorem State.sreg_setNZ (s : State) (n z : Bool) (i : SReg) : (s.setNZ n z).sreg i = s.sreg i := rfl
@[simp] theorem State.sreg_setAluFlags (s : State) (x : AluOut) (i : SReg) : (s.setAluFlags x).sreg i = s.sreg i := rfl
@[simp] theorem State.sreg_resume (s : State) (i : SReg) : (s.resume).sreg i = s.sreg i := rfl
@[simp] theorem State.sreg_compare (s : State) (k : FpClass) (i : SReg) : (s.compare k).sreg i = s.sreg i :=
  State.ext_sreg (State.compare_slots s k) i
@[simp] theorem State.sreg_writeBack (s : State) (a : Address) (rn : Reg) (i : SReg) :
    (s.writeBack a rn).sreg i = s.sreg i := State.ext_sreg (State.writeBack_slots s a rn) i
@[simp] theorem State.reg_writeBack (s : State) (a : Address) (rn r : Reg) :
    (s.writeBack a rn).reg r = if a.wb = true ∧ rn = r then a.target else s.reg r := by
  unfold State.writeBack; split <;> simp_all

@[simp] theorem State.pc_setReg_pc (s : State) (v : Word) : (s.setReg 15 v).pc = v := by
  simp [State.pc]
@[simp] theorem State.pc_resume (s : State) : s.resume.pc = s.pc := rfl

/-! ## The double view -/

@[simp] theorem lowSlot_inj (i j : DReg) : lowSlot i = lowSlot j ↔ i = j := by
  revert i j; decide
@[simp] theorem highSlot_inj (i j : DReg) : highSlot i = highSlot j ↔ i = j := by
  revert i j; decide
@[simp] theorem lowSlot_ne_highSlot (i j : DReg) : lowSlot i ≠ highSlot j := by
  revert i j; decide
@[simp] theorem highSlot_ne_lowSlot (i j : DReg) : highSlot i ≠ lowSlot j := by
  revert i j; decide

/-! ## Flags -/

theorem withTopBits_high (r : Word) (n z c v : Bool) (k : Nat) (hk : 28 ≤ k) :
    (withTopBits r n z c v).getLsbD k
      = (BitVec.ofBool n ++ BitVec.ofBool z ++ BitVec.ofBool c ++ BitVec.ofBool v).getLsbD (k - 28) := by
  refine (BitVec.getLsbD_append (x := BitVec.ofBool n ++ BitVec.ofBool z ++ BitVec.ofBool c ++ BitVec.ofBool v)
    (y := r.extractLsb' 0 28) (i := k)).trans ?_
  rw [if_neg (Nat.not_lt.mpr hk)]
theorem withTopBits_31 (r : Word) (n z c v : Bool) : (withTopBits r n z c v).getLsbD 31 = n := by
  rw [withTopBits_high _ _ _ _ _ _ (by omega)]; revert n z c v; decide
theorem withTopBits_30 (r : Word) (n z c v : Bool) : (withTopBits r n z c v).getLsbD 30 = z := by
  rw [withTopBits_high _ _ _ _ _ _ (by omega)]; revert n z c v; decide
theorem withTopBits_29 (r : Word) (n z c v : Bool) : (withTopBits r n z c v).getLsbD 29 = c := by
  rw [withTopBits_high _ _ _ _ _ _ (by omega)]; revert n z c v; decide
theorem withTopBits_28 (r : Word) (n z c v : Bool) : (withTopBits r n z c v).getLsbD 28 = v := by
  rw [withTopBits_high _ _ _ _ _ _ (by omega)]; revert n z c v; decide
@[simp] theorem withTopBits_low (r : Word) (n z c v : Bool) :
    (withTopBits r n z c v).extractLsb' 0 28 = r.extractLsb' 0 28 := by
  apply BitVec.eq_of_getLsbD_eq
  intro i hi
  rw [BitVec.getLsbD_extractLsb', BitVec.getLsbD_extractLsb', Nat.zero_add]
  refine congrArg (fun b => decide (i < 28) && b) ?_
  refine (BitVec.getLsbD_append (x := BitVec.ofBool n ++ BitVec.ofBool z ++ BitVec.ofBool c ++ BitVec.ofBool v)
    (y := r.extractLsb' 0 28) (i := i)).trans ?_
  simp [hi]

@[simp] theorem State.flagN_setFlags (s : State) (n z c v : Bool) : (s.setFlags n z c v).flagN = n :=
  withTopBits_31 _ _ _ _ _
@[simp] theorem State.flagZ_setFlags (s : State) (n z c v : Bool) : (s.setFlags n z c v).flagZ = z :=
  withTopBits_30 _ _ _ _ _
@[simp] theorem State.flagC_setFlags (s : State) (n z c v : Bool) : (s.setFlags n z c v).flagC = c :=
  withTopBits_29 _ _ _ _ _
@[simp] theorem State.flagV_setFlags (s : State) (n z c v : Bool) : (s.setFlags n z c v).flagV = v :=
  withTopBits_28 _ _ _ _ _

/-- The low bits of CPSR after any write of the flags. -/
@[simp] theorem State.setFlags_low (s : State) (n z c v : Bool) :
    (s.setFlags n z c v).cpsr.extractLsb' 0 28 = s.cpsr.extractLsb' 0 28 := by simp

/-- A compare writes bits 31:28 of CPSR and FPSCR alike and keeps the others. -/
theorem State.compare_low (s : State) (k : FpClass) :
    (s.compare k).cpsr.extractLsb' 0 28 = s.cpsr.extractLsb' 0 28 ∧
      (s.compare k).fpscr.extractLsb' 0 28 = s.fpscr.extractLsb' 0 28 := by
  cases k <;> simp [State.compare, setCompareFlags]

end Sys2Proof.Machine
end

