-- ==== Sys2Proof/Laws/Memory.lean ====
section
/-!
SUPPORT. The memory image: every write keeps the canonical form, and what a byte reads as after a write.
-/

namespace Sys2Proof.Machine

/-- An address below every listed one is not listed. -/
theorem Memory.read_eq_zero {m : Memory} {a : Nat} (h : ∀ c ∈ m, c.1 ≠ a) : m.read a = 0 := by
  induction m with
  | nil => rfl
  | cons c m ih =>
    obtain ⟨k, v⟩ := c
    simp only [List.mem_cons, forall_eq_or_imp] at h
    simp [Memory.read, h.1, ih h.2]

theorem Memory.wf_nil : Memory.wf [] := by simp [Memory.wf]

theorem Memory.wf_tail {c : Host.Cell} {m : Memory} (h : Memory.wf (c :: m)) : Memory.wf m := by
  simp only [Memory.wf, List.pairwise_cons, List.mem_cons, forall_eq_or_imp] at h ⊢
  exact ⟨h.1.2, h.2.2⟩

theorem Memory.wf_head_lt {c : Host.Cell} {m : Memory} (h : Memory.wf (c :: m)) : ∀ d ∈ m, c.1 < d.1 := by
  simp only [Memory.wf, List.pairwise_cons] at h
  exact h.1.1

/-- The addresses listed after a write: those before it, and the written one. -/
theorem Memory.mem_write {m : Memory} {a : Nat} {v : Byte} {c : Host.Cell} (h : c ∈ m.write a v) :
    c ∈ m ∨ (c.1 = a ∧ c.2 = v ∧ v ≠ 0) := by
  induction m with
  | nil =>
    simp only [Memory.write] at h
    split at h <;> simp_all
  | cons d m ih =>
    obtain ⟨k, w⟩ := d
    simp only [Memory.write] at h
    split at h
    · split at h
      · exact .inl h
      · rcases List.mem_cons.mp h with rfl | h
        · exact .inr ⟨rfl, rfl, by assumption⟩
        · exact .inl h
    · split at h
      · split at h
        · exact .inl (List.mem_cons_of_mem _ h)
        · rcases List.mem_cons.mp h with rfl | h
          · exact .inr ⟨rfl, rfl, by assumption⟩
          · exact .inl (List.mem_cons_of_mem _ h)
      · rcases List.mem_cons.mp h with rfl | h
        · exact .inl List.mem_cons_self
        · rcases ih h with h | h
          · exact .inl (List.mem_cons_of_mem _ h)
          · exact .inr h

theorem Memory.write_pairwise {m : Memory} (a : Nat) (v : Byte) (h : m.Pairwise (·.1 < ·.1)) :
    (m.write a v).Pairwise (·.1 < ·.1) := by
  induction m with
  | nil => simp only [Memory.write]; split <;> simp
  | cons d m ih =>
    obtain ⟨k, w⟩ := d
    have hd := (List.pairwise_cons.mp h).1
    have ht := (List.pairwise_cons.mp h).2
    simp only [Memory.write]
    split
    · split
      · exact h
      · refine List.pairwise_cons.mpr ⟨?_, h⟩
        intro c hc
        rcases List.mem_cons.mp hc with rfl | hc
        · assumption
        · exact lt_trans ‹a < k› (hd c hc)
    · split
      · split
        · exact ht
        · subst a; exact List.pairwise_cons.mpr ⟨hd, ht⟩
      · refine List.pairwise_cons.mpr ⟨?_, ih ht⟩
        intro c hc
        rcases Memory.mem_write hc with hc | hc
        · exact hd c hc
        · have := hc.1; simp only; omega

/-- A write keeps the canonical form. -/
theorem Memory.write_wf {m : Memory} (a : Nat) (v : Byte) (h : Memory.wf m) : Memory.wf (m.write a v) := by
  refine ⟨Memory.write_pairwise a v h.1, ?_⟩
  intro c hc
  rcases Memory.mem_write hc with hc | hc
  · exact h.2 c hc
  · rw [hc.2.1]; exact hc.2.2

/-- What a byte reads as after a write of one byte. -/
theorem Memory.read_write {m : Memory} (a : Nat) (v : Byte) (b : Nat) (h : Memory.wf m) :
    (m.write a v).read b = if b = a then v else m.read b := by
  induction m with
  | nil =>
    simp only [Memory.write]
    split
    · simp_all [Memory.read]
    · simp only [Memory.read]; grind
  | cons d m ih =>
    obtain ⟨k, w⟩ := d
    have hd := Memory.wf_head_lt h
    have ih := ih (Memory.wf_tail h)
    have h0 : ∀ x, x ≤ k → Memory.read m x = 0 := fun x hx => Memory.read_eq_zero (fun c hc => by
      have := hd c hc; simp only at this; omega)
    have := h0 k le_rfl
    simp only [Memory.write]
    split
    · have := h0 a (by omega)
      split <;> simp only [Memory.read] <;> grind
    · split
      · split <;> simp only [Memory.read] <;> grind
      · simp only [Memory.read, ih]; grind

/-- A write of several bytes keeps the canonical form. -/
theorem Memory.writeN_wf {m : Memory} (a n v : Nat) (h : Memory.wf m) : Memory.wf (m.writeN a n v) := by
  induction n generalizing m a v with
  | zero => exact h
  | succ n ih => exact ih _ _ (Memory.write_wf _ _ h)

/-- The addresses listed after a write of several bytes. -/
theorem Memory.mem_writeN {m : Memory} {a n v : Nat} {c : Host.Cell} (h : c ∈ m.writeN a n v) :
    c ∈ m ∨ (a ≤ c.1 ∧ c.1 < a + n) := by
  induction n generalizing m a v with
  | zero => exact .inl h
  | succ n ih =>
    rcases ih h with h | h
    · rcases Memory.mem_write h with h | h
      · exact .inl h
      · right; omega
    · right; omega

/-- A byte outside a write of several bytes reads as before. -/
theorem Memory.read_writeN_of_outside {m : Memory} (a n v b : Nat) (h : Memory.wf m) (hb : b < a ∨ a + n ≤ b) :
    (m.writeN a n v).read b = m.read b := by
  induction n generalizing m a v with
  | zero => rfl
  | succ n ih =>
    simp only [Memory.writeN]
    rw [ih (a + 1) (v / 256) (Memory.write_wf _ _ h) (by omega), Memory.read_write _ _ _ h, if_neg (by omega)]

/-- A byte of a write of several bytes. -/
theorem Memory.read_writeN_of_inside {m : Memory} (a n v k : Nat) (h : Memory.wf m) (hk : k < n) :
    (m.writeN a n v).read (a + k) = BitVec.ofNat 8 (v / 256 ^ k) := by
  induction n generalizing m a v k with
  | zero => omega
  | succ n ih =>
    simp only [Memory.writeN]
    cases k with
    | zero =>
      rw [Memory.read_writeN_of_outside _ _ _ _ (Memory.write_wf _ _ h) (by omega), Memory.read_write _ _ _ h]
      simp
    | succ k =>
      rw [show a + (k + 1) = a + 1 + k by omega, ih _ _ _ (Memory.write_wf _ _ h) (by omega), Nat.div_div_eq_div_mul,
        Nat.pow_succ, Nat.mul_comm]

/-- What was written is what is read. -/
theorem Memory.readN_writeN {m : Memory} (a n v : Nat) (h : Memory.wf m) :
    (m.writeN a n v).readN a n = v % 256 ^ n := by
  induction n generalizing m a v with
  | zero => simp [Memory.readN, Nat.mod_one]
  | succ n ih =>
    rw [Memory.readN, Memory.writeN, ih _ _ (Memory.write_wf _ _ h),
      Memory.read_writeN_of_outside _ _ _ _ (Memory.write_wf _ _ h) (by omega), Memory.read_write _ _ _ h, if_pos rfl,
      Nat.pow_succ 256 n, Nat.mul_comm (256 ^ n) 256]
    exact (Nat.mod_mul (a := 256)).symm

/-- A read of several bytes depends only on those bytes. -/
theorem Memory.readN_congr {m m' : Memory} (a n : Nat) (h : ∀ b, a ≤ b → b < a + n → m'.read b = m.read b) :
    m'.readN a n = m.readN a n := by
  induction n generalizing a with
  | zero => rfl
  | succ n ih =>
    simp only [Memory.readN]
    rw [h a le_rfl (by omega), ih (a + 1) (fun b h1 h2 => h b (by omega) (by omega))]

/-- A read of `n` bytes is below `256 ^ n`. -/
theorem Memory.readN_lt (m : Memory) (a n : Nat) : m.readN a n < 256 ^ n := by
  induction n generalizing a with
  | zero => simp [Memory.readN]
  | succ n ih =>
    have := ih (a + 1)
    have := (m.read a).isLt
    simp only [Memory.readN, Nat.pow_succ]
    omega

/-- A load of bytes keeps the canonical form. -/
theorem loadBytes_wf {m : Memory} (a : Nat) (bs : List Byte) (h : Memory.wf m) : Memory.wf (loadBytes m a bs) := by
  induction bs generalizing m a with
  | nil => exact h
  | cons b bs ih => exact ih _ (Memory.write_wf _ _ h)

/-- The memory right after reset is in its canonical form. -/
theorem reset_mem_wf : Memory.wf State.reset.mem := Memory.wf_nil

end Sys2Proof.Machine
end

