-- ==== Sys2Proof/Laws/Ops.lean ====
section
/-!
SUPPORT. One lemma per shared operation: everything it can do, and the property every write of a step keeps.
-/

namespace Sys2Proof.Machine

/-! ## The memory port -/

/-- A read of the port succeeds exactly when the access is let through. -/
theorem memRead_ok_iff {s : State} {a : Word} {n v : Nat} :
    memRead s a n = .ok v ↔ checkAccess s a n .read = none ∧ v = s.mem.readN a.toNat n := by
  cases h : checkAccess s a n .read <;> simp [memRead, h, eq_comm]

theorem memRead_error_iff {s : State} {a : Word} {n : Nat} {f : MemFault} :
    memRead s a n = .error f ↔ checkAccess s a n .read = some f := by
  unfold memRead; split <;> simp_all

/-- A write of the port succeeds exactly when the access is let through. -/
theorem memWrite_ok_iff {s t : State} {a : Word} {n v : Nat} :
    memWrite s a n v = .ok t ↔
      checkAccess s a n .write = none ∧ t = { s with mem := s.mem.writeN a.toNat n v } := by
  cases h : checkAccess s a n .write <;> simp [memWrite, h, eq_comm]

theorem memWrite_error_iff {s : State} {a : Word} {n v : Nat} {f : MemFault} :
    memWrite s a n v = .error f ↔ checkAccess s a n .write = some f := by
  unfold memWrite; split <;> simp_all

/-- An access that is let through lies inside the image. -/
theorem checkAccess_none_le {s : State} {a : Word} {n : Nat} {kind : AccessKind}
    (h : checkAccess s a n kind = none) : a.toNat + n ≤ s.setup.memSize := by
  unfold checkAccess at h; split at h <;> simp_all

/-- In the Protected variant an access that is let through is authorised. -/
theorem checkAccess_none_authorized {s : State} {a : Word} {n : Nat} {kind : AccessKind}
    (h : checkAccess s a n kind = none) (hp : s.setup.variant = .prot) : authorized s.ranges a n kind = true := by
  unfold checkAccess at h; split at h <;> simp_all

/-- In the Raw variant the bound of the image is the only check. -/
theorem checkAccess_raw {s : State} (h : s.setup.variant = .raw) (a : Word) (n : Nat) (kind : AccessKind) :
    checkAccess s a n kind = if s.setup.memSize < a.toNat + n then some (.outOfRange a n) else none := by
  simp [checkAccess, h]

/-- The checks read the access ranges and the parameters only. -/
theorem checkAccess_congr {s t : State} (hr : t.ranges = s.ranges) (hs : t.setup = s.setup) (a : Word) (n : Nat)
    (kind : AccessKind) : checkAccess t a n kind = checkAccess s a n kind := by
  simp only [checkAccess, hr, hs]

/-- A read that is let through. -/
theorem loading_allowed {s : State} {a : Word} {n : Nat} (k : Nat → Result) (h : checkAccess s a n .read = none) :
    loading s a n k = k (s.mem.readN a.toNat n) := by
  simp [loading, memRead, h]

/-- A read that is turned away. -/
theorem loading_denied {s : State} {a : Word} {n : Nat} {f : MemFault} (k : Nat → Result)
    (h : checkAccess s a n .read = some f) : loading s a n k = .fault (.memory f s) := by
  simp [loading, memRead, h, memoryFault]

theorem loading_next {s t : State} {a : Word} {n : Nat} {k : Nat → Result} :
    loading s a n k = .next t ↔ checkAccess s a n .read = none ∧ k (s.mem.readN a.toNat n) = .next t := by
  cases h : checkAccess s a n .read with
  | none => simp [loading_allowed _ h]
  | some f => simp [loading_denied _ h]

/-- A write that is let through. -/
theorem storing_allowed {s : State} {a : Word} {n : Nat} (v : Nat) (k : State → Result)
    (h : checkAccess s a n .write = none) :
    storing s a n v k = k { s with mem := s.mem.writeN a.toNat n v } := by
  simp [storing, memWrite, h]

/-- A write that is turned away. -/
theorem storing_denied {s : State} {a : Word} {n : Nat} {f : MemFault} (v : Nat) (k : State → Result)
    (h : checkAccess s a n .write = some f) : storing s a n v k = .fault (.memory f s) := by
  simp [storing, memWrite, h, memoryFault]

theorem storing_next {s t : State} {a : Word} {n v : Nat} {k : State → Result} :
    storing s a n v k = .next t ↔
      checkAccess s a n .write = none ∧ k { s with mem := s.mem.writeN a.toNat n v } = .next t := by
  cases h : checkAccess s a n .write with
  | none => simp [storing_allowed _ _ h]
  | some f => simp [storing_denied _ _ h]

/-! ## Condition and coprocessor -/

theorem whenCond_passes {c : Cond} {s : State} (k : State → Result) (h : condTest c s = .passes) :
    whenCond c s k = k s := by simp [whenCond, h]

theorem whenCond_fails {c : Cond} {s : State} (k : State → Result) (h : condTest c s = .fails) :
    whenCond c s k = .next s := by simp [whenCond, h]

theorem whenCond_reserved {c : Cond} {s : State} (k : State → Result) (h : condTest c s = .reserved) :
    whenCond c s k = .fault (.undefined s) := by simp [whenCond, h, undefined]

theorem whenCond_next {c : Cond} {s t : State} {k : State → Result} :
    whenCond c s k = .next t ↔
      (condTest c s = .passes ∧ k s = .next t) ∨ (condTest c s = .fails ∧ t = s) := by
  cases h : condTest c s <;> simp [whenCond, h, undefined, eq_comm]

/-- The condition test reads CPSR and `COND_1111` only. -/
theorem condTest_congr {s t : State} (c : Cond) (hc : t.cpsr = s.cpsr) (hs : t.setup = s.setup) :
    condTest c t = condTest c s := by
  simp only [condTest, State.flagN, State.flagZ, State.flagC, State.flagV, hc, hs]
  rfl

theorem coprocessor_vfp {c : Cond} {s : State} (k : State → Result) (h : condTest c s = .passes)
    (hv : s.setup.coproc = .vfp) : coprocessor c s k = k s := by simp [coprocessor, whenCond, h, hv]

theorem coprocessor_absent {c : Cond} {s : State} (k : State → Result) (h : condTest c s = .passes)
    (hv : s.setup.coproc = .absent) : coprocessor c s k = .fault (.unimplemented .noCoprocessor s) := by
  simp [coprocessor, whenCond, h, hv, unimplemented]

theorem coprocessor_next {c : Cond} {s t : State} {k : State → Result} :
    coprocessor c s k = .next t ↔
      (condTest c s = .passes ∧ s.setup.coproc = .vfp ∧ k s = .next t) ∨ (condTest c s = .fails ∧ t = s) := by
  cases h : s.setup.coproc <;> simp [coprocessor, whenCond_next, h, unimplemented]

theorem inMode_has {m : DtMode} {s : State} (k : State → Result) (h : hasMode s m = true) : inMode m k s = k s := by
  simp [inMode, h]

theorem inMode_lacks {m : DtMode} {s : State} (k : State → Result) (h : hasMode s m = false) :
    inMode m k s = .fault (.unimplemented .vfpAddressingMode s) := by simp [inMode, h, unimplemented]

/-! ## Fetch -/

/-- A fetch that is let through. -/
theorem fetch_allowed {s : State} (k : Word → State → Result) (h : checkAccess s s.pc 4 .read = none) :
    fetch s k = k (BitVec.ofNat 32 (s.mem.readN s.pc.toNat 4)) (s.setReg 15 (s.pc + 4)) :=
  loading_allowed _ h

/-- A fetch that is turned away. -/
theorem fetch_denied {s : State} {f : MemFault} (k : Word → State → Result)
    (h : checkAccess s s.pc 4 .read = some f) : fetch s k = .fault (.memory f s) :=
  loading_denied _ h

/-! ## The shapes of the engine's instructions -/

theorem dpWrite_next {c : Cond} {sf : Bool} {rd : Reg} {o : Operand2} {alu : Shifted → AluOut} {s t : State} :
    dpWrite c sf rd o alu s = .next t ↔
      (condTest c s = .passes ∧ (sf && rd == 15) = false ∧
        t = if sf then (s.setReg rd (alu (operand2 s o)).result).setAluFlags (alu (operand2 s o))
          else s.setReg rd (alu (operand2 s o)).result) ∨ (condTest c s = .fails ∧ t = s) := by
  simp only [dpWrite, whenCond_next, unimplemented]
  cases sf && rd == 15 <;> simp [@eq_comm _ t]

/-- With `S = 1` a destination of 15 is turned away. -/
theorem dpWrite_pc {c : Cond} {o : Operand2} {alu : Shifted → AluOut} {s : State} (h : condTest c s = .passes) :
    dpWrite c true 15 o alu s = .fault (.unimplemented .flagsWithPcDest s) := by
  rw [dpWrite, whenCond_passes _ h]; rfl

theorem dpCompare_next {c : Cond} {o : Operand2} {alu : Shifted → AluOut} {s t : State} :
    dpCompare c o alu s = .next t ↔
      (condTest c s = .passes ∧ t = s.setAluFlags (alu (operand2 s o))) ∨ (condTest c s = .fails ∧ t = s) := by
  simp [dpCompare, whenCond_next, @eq_comm _ t]

theorem loadReg_next {a : Address} {n : Nat} {rn rd : Reg} {value : Nat → Word} {s t : State} :
    loadReg a n rn rd value s = .next t ↔
      checkAccess s a.addr n .read = none ∧
        t = (s.writeBack a rn).setReg rd (value (s.mem.readN a.addr.toNat n)) := by
  simp [loadReg, loading_next, @eq_comm _ t]

theorem storeReg_next {a : Address} {n : Nat} {rn : Reg} {v : Word} {s t : State} :
    storeReg a n rn v s = .next t ↔
      checkAccess s a.addr n .write = none ∧
        t = State.writeBack { s with mem := s.mem.writeN a.addr.toNat n v.toNat } a rn := by
  simp [storeReg, storing_next, @eq_comm _ t]

theorem swap_next {n : Nat} {rn rd rm : Reg} {s t : State} :
    swap n rn rd rm s = .next t ↔
      checkAccess s (s.rd rn s.setup.off.swp) n .read = none ∧
        checkAccess s (s.rd rn s.setup.off.swp) n .write = none ∧
        t = State.setReg
            { s with mem := s.mem.writeN (s.rd rn s.setup.off.swp).toNat n (s.rd rm s.setup.off.swp).toNat }
            rd (zeroExtended (s.mem.readN (s.rd rn s.setup.off.swp).toNat n)) := by
  simp [swap, loading_next, storing_next, @eq_comm _ t]

/-- One transfer of the block loop, and the rest of it. -/
theorem blockLoop_cons {before up : Bool} {transfer : Reg → Word → State → Except MemFault State}
    {k : Word → State → Result} {r : Reg} {rs : List Reg} {a : Word} {s : State} :
    blockLoop before up transfer k (r :: rs) a s =
      match transfer r (if before then nextWord up a else a) s with
      | .ok s' => blockLoop before up transfer k rs (nextWord up a) s'
      | .error f => .fault (.memory f s) := by
  rw [blockLoop]; cases before <;> rfl

/-- One transfer of the loop of a VFP multiple, and the rest of it. -/
theorem multipleLoop_succ {size count i : Nat} {transfer : Nat → Word → State → Except MemFault State}
    {k : State → Result} {a : Word} {s : State} :
    multipleLoop size transfer k (count + 1) i a s =
      match transfer i a s with
      | .ok s' => multipleLoop size transfer k count (i + 1) (a + BitVec.ofNat 32 size) s'
      | .error f => .fault (.memory f s) := rfl

/-- The first `m` transfers of the loop of a VFP multiple: where each takes `Q` on by one, they are done with `Q m`
and the loop goes on from there. -/
theorem multipleLoop_prefix {size i m n : Nat} {transfer : Nat → Word → State → Except MemFault State}
    {k : State → Result} {a : Word} {s : State} {Q : Nat → State → Prop} (h0 : Q 0 s)
    (hstep : ∀ j < m, ∀ u, Q j u → ∃ u', transfer (i + j) (a + BitVec.ofNat 32 (size * j)) u = .ok u' ∧ Q (j + 1) u') :
    ∃ u, Q m u ∧ multipleLoop size transfer k (m + n) i a s =
      multipleLoop size transfer k n (i + m) (a + BitVec.ofNat 32 (size * m)) u := by
  induction m generalizing n with
  | zero => exact ⟨s, h0, by simp⟩
  | succ m ih =>
    obtain ⟨u, hu, hl⟩ := ih (n := n + 1) fun j hj => hstep j (Nat.lt_succ_of_lt hj)
    obtain ⟨u', ht, hu'⟩ := hstep m (Nat.lt_succ_self m) u hu
    refine ⟨u', hu', ?_⟩
    rw [Nat.add_right_comm m 1 n, Nat.add_assoc m n 1, hl, multipleLoop_succ, ht]
    simp only [Nat.mul_succ, BitVec.ofNat_add, BitVec.add_assoc, Nat.add_assoc]

/-! ## What every write of a step keeps -/

/-- A property of states that every write an instruction can make keeps. -/
structure Kept (P : State → Prop) : Prop where
  setReg   : ∀ s r v, P s → P (s.setReg r v)
  setSReg  : ∀ s i v, P s → P (s.setSReg i v)
  setFlags : ∀ s n z c v, P s → P (s.setFlags n z c v)
  compare  : ∀ s k, P s → P (s.compare k)
  memWrite : ∀ s a n v, P s → checkAccess s a n .write = none → P { s with mem := s.mem.writeN a.toNat n v }

/-- An outcome is no refusal, and the state it carries has the property. -/
def Ends (P : State → Prop) : Result → Prop
  | .next t => P t
  | .fault (.undefined t) => P t
  | .fault (.unimplemented _ t) => P t
  | .fault (.memory _ t) => P t
  | .refused _ => False

variable {P : State → Prop}

theorem Kept.setDReg (h : Kept P) {s : State} (i : DReg) (v : Dword) (hs : P s) : P (s.setDReg i v) :=
  h.setSReg _ _ _ (h.setSReg _ _ _ hs)

theorem Kept.setAluFlags (h : Kept P) {s : State} (r : AluOut) (hs : P s) : P (s.setAluFlags r) :=
  h.setFlags _ _ _ _ _ hs

theorem Kept.setNZ (h : Kept P) {s : State} (n z : Bool) (hs : P s) : P (s.setNZ n z) := h.setFlags _ _ _ _ _ hs

theorem Kept.writeBack (h : Kept P) {s : State} (a : Address) (rn : Reg) (hs : P s) : P (s.writeBack a rn) := by
  unfold State.writeBack; split
  · exact h.setReg _ _ _ hs
  · exact hs

theorem whenCond_ends {c : Cond} {s : State} {k : State → Result} (hs : P s) (hk : Ends P (k s)) :
    Ends P (whenCond c s k) := by
  unfold whenCond undefined; split <;> assumption

theorem coprocessor_ends {c : Cond} {s : State} {k : State → Result} (hs : P s) (hk : Ends P (k s)) :
    Ends P (coprocessor c s k) := by
  refine whenCond_ends hs ?_
  simp only [unimplemented]; split <;> assumption

theorem loading_ends {s : State} {a : Word} {n : Nat} {k : Nat → Result} (hs : P s) (hk : ∀ v, Ends P (k v)) :
    Ends P (loading s a n k) := by
  unfold loading memoryFault; split
  · exact hk _
  · exact hs

theorem storing_ends (h : Kept P) {s : State} {a : Word} {n v : Nat} {k : State → Result} (hs : P s)
    (hk : ∀ t, P t → Ends P (k t)) : Ends P (storing s a n v k) := by
  cases hc : checkAccess s a n .write with
  | none => rw [storing_allowed _ _ hc]; exact hk _ (h.memWrite _ _ _ _ hs hc)
  | some f => rw [storing_denied _ _ hc]; exact hs

theorem inMode_ends {m : DtMode} {s : State} {k : State → Result} (hs : P s) (hk : Ends P (k s)) :
    Ends P (inMode m k s) := by
  unfold inMode unimplemented; split <;> assumption

theorem dpWrite_ends (h : Kept P) {c : Cond} {sf : Bool} {rd : Reg} {o : Operand2} {alu : Shifted → AluOut}
    {s : State} (hs : P s) : Ends P (dpWrite c sf rd o alu s) := by
  refine whenCond_ends hs ?_
  simp only [unimplemented]; split
  · exact hs
  · cases sf
    · exact h.setReg _ _ _ hs
    · exact h.setAluFlags _ (h.setReg _ _ _ hs)

theorem dpCompare_ends (h : Kept P) {c : Cond} {o : Operand2} {alu : Shifted → AluOut} {s : State} (hs : P s) :
    Ends P (dpCompare c o alu s) := whenCond_ends hs (h.setAluFlags _ hs)

theorem mulWrite_kept (h : Kept P) {sf : Bool} {rd : Reg} {v : Word} {s : State} (hs : P s) :
    P (mulWrite sf rd v s) := by
  unfold mulWrite; dsimp only; split
  · exact h.setNZ _ _ (h.setReg _ _ _ hs)
  · exact h.setReg _ _ _ hs

theorem mulWriteLong_kept (h : Kept P) {sf : Bool} {hi lo : Reg} {p : Dword} {s : State} (hs : P s) :
    P (mulWriteLong sf hi lo p s) := by
  unfold mulWriteLong; dsimp only; split
  · exact h.setNZ _ _ (h.setReg _ _ _ (h.setReg _ _ _ hs))
  · exact h.setReg _ _ _ (h.setReg _ _ _ hs)

theorem loadReg_ends (h : Kept P) {a : Address} {n : Nat} {rn rd : Reg} {value : Nat → Word} {s : State}
    (hs : P s) : Ends P (loadReg a n rn rd value s) :=
  loading_ends hs fun _ => h.setReg _ _ _ (h.writeBack _ _ hs)

theorem storeReg_ends (h : Kept P) {a : Address} {n : Nat} {rn : Reg} {v : Word} {s : State} (hs : P s) :
    Ends P (storeReg a n rn v s) := storing_ends h hs fun _ ht => h.writeBack _ _ ht

theorem swap_ends (h : Kept P) {n : Nat} {rn rd rm : Reg} {s : State} (hs : P s) : Ends P (swap n rn rd rm s) :=
  loading_ends hs fun _ => storing_ends h hs fun _ ht => h.setReg _ _ _ ht

theorem blockLoop_ends {before up : Bool} {transfer : Reg → Word → State → Except MemFault State}
    {k : Word → State → Result} (ht : ∀ r a s s', P s → transfer r a s = .ok s' → P s')
    (hk : ∀ a s, P s → Ends P (k a s)) (rs : List Reg) (a : Word) (s : State) (hs : P s) :
    Ends P (blockLoop before up transfer k rs a s) := by
  induction rs generalizing a s with
  | nil => exact hk _ _ hs
  | cons r rs ih =>
    rw [blockLoop_cons]; split
    · exact ih _ _ (ht _ _ _ _ hs ‹_›)
    · exact hs

theorem multipleLoop_ends {size : Nat} {transfer : Nat → Word → State → Except MemFault State}
    {k : State → Result} (ht : ∀ i a s s', P s → transfer i a s = .ok s' → P s') (hk : ∀ s, P s → Ends P (k s))
    (count i : Nat) (a : Word) (s : State) (hs : P s) : Ends P (multipleLoop size transfer k count i a s) := by
  induction count generalizing i a s with
  | zero => exact hk _ hs
  | succ n ih =>
    rw [multipleLoop_succ]; split
    · exact ih _ _ _ (ht _ _ _ _ hs ‹_›)
    · exact hs

theorem ldmTransfer_kept (h : Kept P) {r : Reg} {a : Word} {s s' : State} (hs : P s)
    (hr : ldmTransfer r a s = .ok s') : P s' := by
  unfold ldmTransfer at hr; split at hr
  · cases hr; exact h.setReg _ _ _ hs
  · cases hr

theorem stmTransfer_kept (h : Kept P) {r : Reg} {a : Word} {s s' : State} (hs : P s)
    (hr : stmTransfer r a s = .ok s') : P s' := by
  obtain ⟨hc, rfl⟩ := memWrite_ok_iff.mp hr
  exact h.memWrite _ _ _ _ hs hc

theorem blockTransfer_ends (h : Kept P) {before up : Bool} {transfer : Reg → Word → State → Except MemFault State}
    {wb : Bool} {rn : Reg} {list : BitVec 16} {s : State}
    (ht : ∀ r a s s', P s → transfer r a s = .ok s' → P s') (hs : P s) :
    Ends P (blockTransfer before up transfer wb rn list s) := by
  refine blockLoop_ends ht (fun a s hs => ?_) _ _ _ hs
  cases wb
  · exact hs
  · exact h.setReg _ _ _ hs

theorem ldm_ends (h : Kept P) {before up wb : Bool} {rn : Reg} {list : BitVec 16} {s : State} (hs : P s) :
    Ends P (blockTransfer before up ldmTransfer wb rn list s) :=
  blockTransfer_ends h (fun _ _ _ _ => ldmTransfer_kept h) hs

theorem stm_ends (h : Kept P) {before up wb : Bool} {rn : Reg} {list : BitVec 16} {s : State} (hs : P s) :
    Ends P (blockTransfer before up stmTransfer wb rn list s) :=
  blockTransfer_ends h (fun _ _ _ _ => stmTransfer_kept h) hs

theorem vfpMultiple_ends (h : Kept P) {m : DtMode} {rn : Reg} {words : BitVec 8} {file first count size : Nat}
    {transfer : Nat → Word → State → Except MemFault State} {s : State}
    (ht : ∀ i a s s', P s → transfer i a s = .ok s' → P s') (hs : P s) :
    Ends P (vfpMultiple m rn words file first count size transfer s) := by
  refine inMode_ends hs ?_
  split
  · exact hs
  · refine multipleLoop_ends ht (fun s hs => ?_) _ _ _ _ hs
    unfold multipleWriteBack; split
    · exact h.setReg _ _ _ hs
    · exact h.setReg _ _ _ hs
    · exact hs

theorem loadSingle_kept (h : Kept P) {f : SReg} {i : Nat} {a : Word} {s s' : State} (hs : P s)
    (hr : loadSingle f i a s = .ok s') : P s' := by
  unfold loadSingle at hr; split at hr
  · cases hr; exact h.setSReg _ _ _ hs
  · cases hr

theorem loadDouble_kept (h : Kept P) {f : DReg} {i : Nat} {a : Word} {s s' : State} (hs : P s)
    (hr : loadDouble f i a s = .ok s') : P s' := by
  unfold loadDouble at hr; split at hr
  · cases hr; exact h.setDReg _ _ hs
  · cases hr

theorem storeSingle_kept (h : Kept P) {f : SReg} {i : Nat} {a : Word} {s s' : State} (hs : P s)
    (hr : storeSingle f i a s = .ok s') : P s' := by
  obtain ⟨hc, rfl⟩ := memWrite_ok_iff.mp hr
  exact h.memWrite _ _ _ _ hs hc

theorem storeDouble_kept (h : Kept P) {f : DReg} {i : Nat} {a : Word} {s s' : State} (hs : P s)
    (hr : storeDouble f i a s = .ok s') : P s' := by
  obtain ⟨hc, rfl⟩ := memWrite_ok_iff.mp hr
  exact h.memWrite _ _ _ _ hs hc

theorem vfpFault_ends {why : UnimplReason} {b : Body} {s : State} (hs : P s) : Ends P (vfpFault why b s) := by
  unfold vfpFault; split
  · exact inMode_ends hs hs
  · exact hs

/-- Whatever the VFP unit does keeps what every write keeps, and it never refuses. -/
theorem vfpUnit_ends (h : Kept P) (i : Instr) {s : State} (hs : P s) : Ends P (vfpUnit i s) := by
  cases i
  case fmrx => simp only [vfpUnit, vfpFmrx, unimplemented]; split; exacts [h.setReg _ _ _ hs, hs]
  case fmsrr =>
    simp only [vfpUnit, vfpFmsrr, unimplemented]; split; exacts [hs, h.setSReg _ _ _ (h.setSReg _ _ _ hs)]
  case fmrrs =>
    simp only [vfpUnit, vfpFmrrs, unimplemented]; split; exacts [hs, h.setReg _ _ _ (h.setReg _ _ _ hs)]
  case flds =>
    simp only [vfpUnit, vfpFlds]
    refine inMode_ends hs ?_
    refine loading_ends hs fun v => ?_
    exact h.setSReg _ _ _ hs
  case fldd =>
    simp only [vfpUnit, vfpFldd]
    refine inMode_ends hs ?_
    refine loading_ends hs fun v => ?_
    exact h.setDReg _ _ hs
  case fsts =>
    simp only [vfpUnit, vfpFsts]
    refine inMode_ends hs ?_
    refine storing_ends h hs fun _ ht => ?_
    exact ht
  case fstd =>
    simp only [vfpUnit, vfpFstd]
    refine inMode_ends hs ?_
    refine storing_ends h hs fun _ ht => ?_
    exact ht
  all_goals first
    | exact hs
    | exact h.setSReg _ _ _ hs
    | exact h.setDReg _ _ hs
    | exact h.setReg _ _ _ hs
    | exact h.compare _ _ hs
    | exact h.setReg _ _ _ (h.setReg _ _ _ hs)
    | exact vfpMultiple_ends h (fun _ _ _ _ => loadSingle_kept h) hs
    | exact vfpMultiple_ends h (fun _ _ _ _ => loadDouble_kept h) hs
    | exact vfpMultiple_ends h (fun _ _ _ _ => storeSingle_kept h) hs
    | exact vfpMultiple_ends h (fun _ _ _ _ => storeDouble_kept h) hs
    | exact vfpFault_ends hs

end Sys2Proof.Machine
end

