-- ==== Sys2Proof/Laws/Step.lean ====
section
/-!
SUPPORT. The dispatch and the step as wholes: what one instruction does under its condition, and the
property that every step keeps.
-/

namespace Sys2Proof.Machine

/-- An instruction of the VFP unit's list is the unit's operation behind the coprocessor port. -/
theorem exec_vfp {i : Instr} (h : i.level = .vfp) (s : State) : exec i s = coprocessor i.cond s (vfpUnit i) := by
  cases i <;> first | rfl | cases h

/-- A generic coprocessor instruction is the unit's reading of its word behind the coprocessor port. -/
theorem exec_generic {i : Instr} (h : i.isGeneric = true) (s : State) :
    exec i s = coprocessor i.cond s (vfpUnit (decodeVfp (encode i))) := by
  cases i <;> first | rfl | cases h

/-- Every instruction but the undefined format is some effect behind its condition. -/
theorem exec_whenCond {i : Instr} (h : Safety.isUndefined i = false) (s : State) :
    ∃ k, exec i s = whenCond i.cond s k := by
  by_cases hv : i.level = .vfp
  · exact ⟨_, exec_vfp hv s⟩
  by_cases hg : i.isGeneric = true
  · exact ⟨_, exec_generic hg s⟩
  cases i <;> first | exact absurd rfl hv | exact absurd rfl hg | exact Bool.noConfusion h | skip
  case bx | mul | mla | umull | umlal | smull | smlal | b | bl =>
    simp only [exec, execBx, execMul, execMla, execUmull, execUmlal, execSmull, execSmlal, execB, execBl]
    exact ⟨_, rfl⟩
  case and | eor | sub | rsb | add | adc | sbc | rsc | tst | teq | cmp | cmn | orr | mov | bic | mvn =>
    simp only [exec, execAnd, execEor, execSub, execRsb, execAdd, execAdc, execSbc, execRsc, execTst, execTeq,
      execCmp, execCmn, execOrr, execMov, execBic, execMvn, dpWrite, dpCompare]
    exact ⟨_, rfl⟩
  all_goals exact ⟨_, rfl⟩

variable {P : State → Prop}

/-- Every instruction keeps what every write keeps, whether it completes or faults, and none is refused; an
SWI alone writes the run state. -/
theorem exec_ends (h : Kept P) (i : Instr)
    (hrun : ∀ c k, i = .swi c k → ∀ s, P s → P { s with run := .exited (Config.swiMap k) })
    {s : State} (hs : P s) : Ends P (exec i s) := by
  by_cases hv : i.level = .vfp
  · rw [exec_vfp hv]; exact coprocessor_ends hs (vfpUnit_ends h _ hs)
  by_cases hg : i.isGeneric = true
  · rw [exec_generic hg]; exact coprocessor_ends hs (vfpUnit_ends h _ hs)
  cases i <;> first | exact absurd rfl hv | exact absurd rfl hg | skip
  case and | eor | sub | rsb | add | adc | sbc | rsc | orr | mov | bic | mvn =>
    simp only [exec, execAnd, execEor, execSub, execRsb, execAdd, execAdc, execSbc, execRsc, execOrr, execMov,
      execBic, execMvn]
    exact dpWrite_ends h hs
  case tst | teq | cmp | cmn =>
    simp only [exec, execTst, execTeq, execCmp, execCmn]; exact dpCompare_ends h hs
  case mul | mla =>
    simp only [exec, execMul, execMla]; exact whenCond_ends hs (mulWrite_kept h hs)
  case umull | umlal | smull | smlal =>
    simp only [exec, execUmull, execUmlal, execSmull, execSmlal]; exact whenCond_ends hs (mulWriteLong_kept h hs)
  case ldr | ldrb | ldrh | ldrsb | ldrsh =>
    simp only [exec, execLdr, execLdrb, execLdrh, execLdrsb, execLdrsh]; exact whenCond_ends hs (loadReg_ends h hs)
  case str | strb | strh =>
    simp only [exec, execStr, execStrb, execStrh]; exact whenCond_ends hs (storeReg_ends h hs)
  case swp | swpb =>
    simp only [exec, execSwp, execSwpb]; exact whenCond_ends hs (swap_ends h hs)
  case ldmia | ldmib | ldmda | ldmdb =>
    simp only [exec, execLdmia, execLdmib, execLdmda, execLdmdb]; exact whenCond_ends hs (ldm_ends h hs)
  case stmia | stmib | stmda | stmdb =>
    simp only [exec, execStmia, execStmib, execStmda, execStmdb]; exact whenCond_ends hs (stm_ends h hs)
  case b | bx =>
    simp only [exec, execB, execBx]; refine whenCond_ends hs ?_; exact h.setReg _ _ _ hs
  case bl =>
    simp only [exec, execBl]; refine whenCond_ends hs ?_; exact h.setReg _ _ _ (h.setReg _ _ _ hs)
  case swi =>
    simp only [exec, execSwi]; refine whenCond_ends hs ?_; exact hrun _ _ rfl _ hs
  case und => exact hs
  all_goals exact whenCond_ends hs hs

/-- Every step keeps what every write keeps, whether it completes or faults, and none is refused. -/
theorem step_ends (h : Kept P) (hrun : ∀ s r, P s → P { s with run := r }) {s : State} (hs : P s) :
    Ends P (step s) := by
  have hr : P s.resume := hrun _ _ hs
  cases hc : checkAccess s.resume s.resume.pc 4 .read with
  | some f => rw [step, fetch_denied _ hc]; exact hr
  | none =>
    rw [step, fetch_allowed _ hc]
    unfold runWord
    split
    · exact exec_ends h _ (fun _ _ _ _ => hrun _ _) (h.setReg _ _ _ hr)
    · exact h.setReg _ _ _ hr

/-- A step whose fetch is let through runs the word it fetched. -/
theorem step_allowed {s : State} (h : checkAccess s s.pc 4 .read = none) :
    step s = runWord exec (BitVec.ofNat 32 (s.mem.readN s.pc.toNat 4)) (s.resume.setReg 15 (s.pc + 4)) :=
  fetch_allowed _ h

/-- A step whose fetch is turned away. -/
theorem step_denied {s : State} {f : MemFault} (h : checkAccess s s.pc 4 .read = some f) :
    step s = .fault (.memory f s.resume) := fetch_denied _ h

end Sys2Proof.Machine
end

