-- ==== Sys2Proof/Laws/HostPort.lean ====
section
/-!
SUPPORT. The host port's shared operations: the loop of a run call, and the numbering of a list of names.
-/

namespace Sys2Proof.Machine

/-! ## The loop of a run call -/

/-- Every step starts Running, so a step of a resumed state is the step. -/
theorem step_resume (s : State) : step s.resume = step s := rfl

/-- One iteration, and the rest of the loop. -/
theorem runFor_next {s t : State} (n : Nat) (h : step s = .next t) :
    runFor (n + 1) s = match t.run with
      | .exited i => .exited i t
      | .running => runFor n t := by
  cases hr : t.run <;> simp only [runFor, h, hr]

theorem runFor_fault {s : State} {f : Fault} (n : Nat) (h : step s = .fault f) : runFor (n + 1) s = .faulted f := by
  simp only [runFor, h]

/-- A run that has ended otherwise than by its budget ends the same with any larger one. -/
theorem runFor_final_add {n : Nat} {s : State} (m : Nat) (h : (runFor n s).isFinal = true) :
    runFor (n + m) s = runFor n s := by
  induction n generalizing s with
  | zero => cases h
  | succ n ih =>
    rw [Nat.add_right_comm]
    simp only [runFor] at h ⊢
    cases hs : step s with
    | next t => cases hr : t.run <;> simp only [hs, hr] at h ⊢; exact ih h
    | fault f => rfl
    | refused r => rfl

/-! ## The numbers of the results -/

variable {α : Type} [DecidableEq α] {names : List α} {number : α → Int}

/-- A numbering is taken as it is where it tells the names apart. -/
theorem distinctCode_of_nodup (h : (names.map number).Nodup) (a : α) : distinctCode names number a = number a := by
  simp [distinctCode, h]

/-- Whatever the numbering, the names keep numbers of their own. -/
theorem distinctCode_inj {a b : α} (ha : a ∈ names) (hb : b ∈ names)
    (h : distinctCode names number a = distinctCode names number b) : a = b := by
  unfold distinctCode at h
  split at h
  case isTrue hn => exact List.inj_on_of_nodup_map hn ha hb h
  case isFalse => exact (List.idxOf_inj ha).mp (Int.ofNat.inj h)

end Sys2Proof.Machine
end

