-- ==== Sys2Proof/Laws/PerInstr.lean ====
section
/-!
SUPPORT. Per instruction: its word carries its condition in bits 31:28 (30_encoding.md R81).
-/

namespace Sys2Proof

/-- A field that ends below bit 28 leaves the condition field 0. -/
@[simp] theorem put_top {n : Nat} (lo : Nat) (v : BitVec n) (h : lo + n ≤ 28) :
    (put lo v).extractLsb' 28 4 = 0 := by
  apply BitVec.eq_of_getLsbD_eq
  intro i hi
  simp only [put, BitVec.getLsbD_extractLsb', BitVec.getLsbD_shiftLeft, BitVec.getLsbD_setWidth]
  rw [BitVec.getLsbD_of_ge v (28 + i - lo) (by omega)]
  simp

@[simp] theorem putBit_top (lo : Nat) (b : Bool) (h : lo + 1 ≤ 28) : (putBit lo b).extractLsb' 28 4 = 0 :=
  put_top lo (BitVec.ofBool b) h

/-- A word built of a condition and fields below it. -/
theorem withCond_top (c : Cond) (w : Word) (h : w.extractLsb' 28 4 = 0) :
    (withCond c w).extractLsb' 28 4 = c.code := by
  rw [withCond, BitVec.extractLsb'_or, h]
  cases c <;> decide

theorem putSReg_top (lo x : Nat) (r : SReg) (h : lo + 4 ≤ 28) (hx : x + 1 ≤ 28) :
    (putSReg lo x r).extractLsb' 28 4 = 0 := by
  simp (disch := omega) only [putSReg, BitVec.extractLsb'_or, put_top, BitVec.or_self]

theorem encodeIndex_top (ix : Index) : (encodeIndex ix).extractLsb' 28 4 = 0 := by
  simp (disch := omega) only [encodeIndex, BitVec.extractLsb'_or, putBit_top, BitVec.or_self]

theorem encodeOperand2_top (o : Operand2) : (encodeOperand2 o).extractLsb' 28 4 = 0 := by
  cases o <;>
    simp (disch := omega) only [encodeOperand2, BitVec.extractLsb'_or, put_top, putBit_top, BitVec.or_self]

theorem encodeHdtOffset_top (o : HdtOffset) : (encodeHdtOffset o).extractLsb' 28 4 = 0 := by
  cases o <;>
    simp (disch := omega) only [encodeHdtOffset, BitVec.extractLsb'_or, put_top, putBit_top, BitVec.or_self]

theorem encodeSdtOffset_top (o : SdtOffset) : (encodeSdtOffset o).extractLsb' 28 4 = 0 := by
  cases o <;>
    simp (disch := omega) only [encodeSdtOffset, BitVec.extractLsb'_or, put_top, putBit_top, BitVec.or_self]

/-! The words of each format. -/

theorem encodeBody_cond (c : Cond) (b : Body) : (encodeBody c b).extractLsb' 28 4 = c.code :=
  withCond_top c _ (put_top _ _ (by decide))

theorem encodeDp_cond (c : Cond) (op : BitVec 4) (s : Bool) (rn rd : Reg) (o : Operand2) :
    (encodeDp c op s rn rd o).extractLsb' 28 4 = c.code := by
  refine withCond_top c _ ?_
  simp (disch := omega) only [BitVec.extractLsb'_or, put_top, putBit_top, encodeOperand2_top, BitVec.or_self]

theorem encodeMul_cond (c : Cond) (op : BitVec 3) (s : Bool) (hi lo rs rm : Reg) :
    (encodeMul c op s hi lo rs rm).extractLsb' 28 4 = c.code := by
  refine withCond_top c _ ?_
  simp (disch := omega) only [BitVec.extractLsb'_or, put_top, putBit_top, BitVec.or_self]

theorem encodeSwp_cond (c : Cond) (b : Bool) (rn rd rm : Reg) :
    (encodeSwp c b rn rd rm).extractLsb' 28 4 = c.code := by
  refine withCond_top c _ ?_
  simp (disch := omega) only [BitVec.extractLsb'_or, put_top, putBit_top, BitVec.or_self]

theorem encodeHdt_cond (c : Cond) (l : Bool) (sh : BitVec 2) (ix : Index) (rn rd : Reg) (off : HdtOffset) :
    (encodeHdt c l sh ix rn rd off).extractLsb' 28 4 = c.code := by
  refine withCond_top c _ ?_
  simp (disch := omega) only
    [BitVec.extractLsb'_or, put_top, putBit_top, encodeIndex_top, encodeHdtOffset_top, BitVec.or_self]

theorem encodeSdt_cond (c : Cond) (l b : Bool) (ix : Index) (rn rd : Reg) (off : SdtOffset) :
    (encodeSdt c l b ix rn rd off).extractLsb' 28 4 = c.code := by
  refine withCond_top c _ ?_
  simp (disch := omega) only
    [BitVec.extractLsb'_or, put_top, putBit_top, encodeIndex_top, encodeSdtOffset_top, BitVec.or_self]

theorem encodeBdt_cond (c : Cond) (p u l w : Bool) (rn : Reg) (list : BitVec 16) :
    (encodeBdt c p u l w rn list).extractLsb' 28 4 = c.code := by
  refine withCond_top c _ ?_
  simp (disch := omega) only [BitVec.extractLsb'_or, put_top, putBit_top, BitVec.or_self]

theorem encodeB_cond (c : Cond) (l : Bool) (imm24 : BitVec 24) :
    (encodeB c l imm24).extractLsb' 28 4 = c.code := by
  refine withCond_top c _ ?_
  simp (disch := omega) only [BitVec.extractLsb'_or, put_top, putBit_top, BitVec.or_self]

theorem encodeCdt_cond (c : Cond) (l p u n w : Bool) (rn crd cpNum : BitVec 4) (offset8 : BitVec 8) :
    (encodeCdt c l p u n w rn crd cpNum offset8).extractLsb' 28 4 = c.code := by
  refine withCond_top c _ ?_
  simp (disch := omega) only [BitVec.extractLsb'_or, put_top, putBit_top, BitVec.or_self]

theorem encodeCdo_cond (c : Cond) (cpOpc crn crd cpNum : BitVec 4) (cp : BitVec 3) (crm : BitVec 4) :
    (encodeCdo c cpOpc crn crd cpNum cp crm).extractLsb' 28 4 = c.code := by
  refine withCond_top c _ ?_
  simp (disch := omega) only [BitVec.extractLsb'_or, put_top, BitVec.or_self]

theorem encodeCrt_cond (c : Cond) (l : Bool) (cpOpc : BitVec 3) (crn rd cpNum : BitVec 4) (cp : BitVec 3)
    (crm : BitVec 4) :
    (encodeCrt c l cpOpc crn rd cpNum cp crm).extractLsb' 28 4 = c.code := by
  refine withCond_top c _ ?_
  simp (disch := omega) only [BitVec.extractLsb'_or, put_top, putBit_top, BitVec.or_self]

theorem vfpOp_cond (c : Cond) (pqrs : BitVec 4) (dp : Bool) (operands : Word) (h : operands.extractLsb' 28 4 = 0) :
    (vfpOp c pqrs dp operands).extractLsb' 28 4 = c.code := by
  refine withCond_top c _ ?_
  simp (disch := omega) only [BitVec.extractLsb'_or, put_top, putBit_top, BitVec.or_self, h]

theorem vfpTransfer_cond (c : Cond) (dp : Bool) (opc : BitVec 3) (l : Bool) (rd : Reg) (operand : Word)
    (h : operand.extractLsb' 28 4 = 0) :
    (vfpTransfer c dp opc l rd operand).extractLsb' 28 4 = c.code := by
  refine withCond_top c _ ?_
  simp (disch := omega) only [BitVec.extractLsb'_or, put_top, putBit_top, BitVec.or_self, h]

theorem vfpTwo_cond (c : Cond) (dp l : Bool) (rn rd : Reg) (operand : Word) (h : operand.extractLsb' 28 4 = 0) :
    (vfpTwo c dp l rn rd operand).extractLsb' 28 4 = c.code := by
  refine withCond_top c _ ?_
  simp (disch := omega) only [BitVec.extractLsb'_or, put_top, putBit_top, BitVec.or_self, h]

theorem vfpMem_cond (c : Cond) (dp p u w l : Bool) (rn : Reg) (operand : Word) (h : operand.extractLsb' 28 4 = 0) :
    (vfpMem c dp p u w l rn operand).extractLsb' 28 4 = c.code := by
  refine withCond_top c _ ?_
  simp (disch := omega) only [BitVec.extractLsb'_or, put_top, putBit_top, BitVec.or_self, h]

theorem vfpExt_cond (c : Cond) (ext : BitVec 5) (dp : Bool) (operands : Word) (h : operands.extractLsb' 28 4 = 0) :
    (vfpExt c ext dp operands).extractLsb' 28 4 = c.code := by
  refine vfpOp_cond c 15 dp _ ?_
  simp (disch := omega) only [BitVec.extractLsb'_or, put_top, BitVec.or_self, h]

theorem vfpOp3S_cond (c : Cond) (pqrs : BitVec 4) (d n m : SReg) :
    (vfpOp3S c pqrs d n m).extractLsb' 28 4 = c.code := by
  refine vfpOp_cond c pqrs _ _ ?_
  simp (disch := omega) only [BitVec.extractLsb'_or, putSReg_top, BitVec.or_self]

theorem vfpOp3D_cond (c : Cond) (pqrs : BitVec 4) (d n m : DReg) :
    (vfpOp3D c pqrs d n m).extractLsb' 28 4 = c.code := by
  refine vfpOp_cond c pqrs _ _ ?_
  simp (disch := omega) only [BitVec.extractLsb'_or, put_top, BitVec.or_self]

end Sys2Proof

namespace Sys2Proof.Laws

/-- Bits 31:28 of the word are the condition's number. -/
def CondField.Statement (i : Instr) : Prop := (encode i).extractLsb' 28 4 = i.cond.code

theorem CondField.bx (c : Cond) (rm : Reg) :
    CondField.Statement (.bx c rm) := by
  refine withCond_top c _ ?_
  simp (disch := omega) only [BitVec.extractLsb'_or, put_top, BitVec.or_self]

theorem CondField.swp (c : Cond) (rn : Reg) (rd : Reg) (rm : Reg) :
    CondField.Statement (.swp c rn rd rm) :=
  encodeSwp_cond c _ _ _ _

theorem CondField.swpb (c : Cond) (rn : Reg) (rd : Reg) (rm : Reg) :
    CondField.Statement (.swpb c rn rd rm) :=
  encodeSwp_cond c _ _ _ _

theorem CondField.mul (c : Cond) (s : Bool) (rd : Reg) (rs : Reg) (rm : Reg) :
    CondField.Statement (.mul c s rd rs rm) :=
  encodeMul_cond c _ _ _ _ _ _

theorem CondField.mla (c : Cond) (s : Bool) (rd : Reg) (rn : Reg) (rs : Reg) (rm : Reg) :
    CondField.Statement (.mla c s rd rn rs rm) :=
  encodeMul_cond c _ _ _ _ _ _

theorem CondField.umull (c : Cond) (s : Bool) (rdHi : Reg) (rdLo : Reg) (rs : Reg) (rm : Reg) :
    CondField.Statement (.umull c s rdHi rdLo rs rm) :=
  encodeMul_cond c _ _ _ _ _ _

theorem CondField.umlal (c : Cond) (s : Bool) (rdHi : Reg) (rdLo : Reg) (rs : Reg) (rm : Reg) :
    CondField.Statement (.umlal c s rdHi rdLo rs rm) :=
  encodeMul_cond c _ _ _ _ _ _

theorem CondField.smull (c : Cond) (s : Bool) (rdHi : Reg) (rdLo : Reg) (rs : Reg) (rm : Reg) :
    CondField.Statement (.smull c s rdHi rdLo rs rm) :=
  encodeMul_cond c _ _ _ _ _ _

theorem CondField.smlal (c : Cond) (s : Bool) (rdHi : Reg) (rdLo : Reg) (rs : Reg) (rm : Reg) :
    CondField.Statement (.smlal c s rdHi rdLo rs rm) :=
  encodeMul_cond c _ _ _ _ _ _

theorem CondField.unimplHalfwordSH00 (c : Cond) (b : Body) :
    CondField.Statement (.unimplHalfwordSH00 c b) :=
  encodeBody_cond c _

theorem CondField.unimplHalfwordSignedStore (c : Cond) (b : Body) :
    CondField.Statement (.unimplHalfwordSignedStore c b) :=
  encodeBody_cond c _

theorem CondField.ldrh (c : Cond) (ix : Index) (rn : Reg) (rd : Reg) (off : HdtOffset) :
    CondField.Statement (.ldrh c ix rn rd off) :=
  encodeHdt_cond c _ _ _ _ _ _

theorem CondField.strh (c : Cond) (ix : Index) (rn : Reg) (rd : Reg) (off : HdtOffset) :
    CondField.Statement (.strh c ix rn rd off) :=
  encodeHdt_cond c _ _ _ _ _ _

theorem CondField.ldrsb (c : Cond) (ix : Index) (rn : Reg) (rd : Reg) (off : HdtOffset) :
    CondField.Statement (.ldrsb c ix rn rd off) :=
  encodeHdt_cond c _ _ _ _ _ _

theorem CondField.ldrsh (c : Cond) (ix : Index) (rn : Reg) (rd : Reg) (off : HdtOffset) :
    CondField.Statement (.ldrsh c ix rn rd off) :=
  encodeHdt_cond c _ _ _ _ _ _

theorem CondField.unimplPsrTransfer (c : Cond) (b : Body) :
    CondField.Statement (.unimplPsrTransfer c b) :=
  encodeBody_cond c _

theorem CondField.unimplFlagsWithPcDest (c : Cond) (b : Body) :
    CondField.Statement (.unimplFlagsWithPcDest c b) :=
  encodeBody_cond c _

theorem CondField.unimplBadShiftEncoding (c : Cond) (b : Body) :
    CondField.Statement (.unimplBadShiftEncoding c b) :=
  encodeBody_cond c _

theorem CondField.and (c : Cond) (s : Bool) (rn : Reg) (rd : Reg) (o : Operand2) :
    CondField.Statement (.and c s rn rd o) :=
  encodeDp_cond c _ _ _ _ _

theorem CondField.eor (c : Cond) (s : Bool) (rn : Reg) (rd : Reg) (o : Operand2) :
    CondField.Statement (.eor c s rn rd o) :=
  encodeDp_cond c _ _ _ _ _

theorem CondField.sub (c : Cond) (s : Bool) (rn : Reg) (rd : Reg) (o : Operand2) :
    CondField.Statement (.sub c s rn rd o) :=
  encodeDp_cond c _ _ _ _ _

theorem CondField.rsb (c : Cond) (s : Bool) (rn : Reg) (rd : Reg) (o : Operand2) :
    CondField.Statement (.rsb c s rn rd o) :=
  encodeDp_cond c _ _ _ _ _

theorem CondField.add (c : Cond) (s : Bool) (rn : Reg) (rd : Reg) (o : Operand2) :
    CondField.Statement (.add c s rn rd o) :=
  encodeDp_cond c _ _ _ _ _

theorem CondField.adc (c : Cond) (s : Bool) (rn : Reg) (rd : Reg) (o : Operand2) :
    CondField.Statement (.adc c s rn rd o) :=
  encodeDp_cond c _ _ _ _ _

theorem CondField.sbc (c : Cond) (s : Bool) (rn : Reg) (rd : Reg) (o : Operand2) :
    CondField.Statement (.sbc c s rn rd o) :=
  encodeDp_cond c _ _ _ _ _

theorem CondField.rsc (c : Cond) (s : Bool) (rn : Reg) (rd : Reg) (o : Operand2) :
    CondField.Statement (.rsc c s rn rd o) :=
  encodeDp_cond c _ _ _ _ _

theorem CondField.tst (c : Cond) (rn : Reg) (o : Operand2) :
    CondField.Statement (.tst c rn o) :=
  encodeDp_cond c _ _ _ _ _

theorem CondField.teq (c : Cond) (rn : Reg) (o : Operand2) :
    CondField.Statement (.teq c rn o) :=
  encodeDp_cond c _ _ _ _ _

theorem CondField.cmp (c : Cond) (rn : Reg) (o : Operand2) :
    CondField.Statement (.cmp c rn o) :=
  encodeDp_cond c _ _ _ _ _

theorem CondField.cmn (c : Cond) (rn : Reg) (o : Operand2) :
    CondField.Statement (.cmn c rn o) :=
  encodeDp_cond c _ _ _ _ _

theorem CondField.orr (c : Cond) (s : Bool) (rn : Reg) (rd : Reg) (o : Operand2) :
    CondField.Statement (.orr c s rn rd o) :=
  encodeDp_cond c _ _ _ _ _

theorem CondField.mov (c : Cond) (s : Bool) (rd : Reg) (o : Operand2) :
    CondField.Statement (.mov c s rd o) :=
  encodeDp_cond c _ _ _ _ _

theorem CondField.bic (c : Cond) (s : Bool) (rn : Reg) (rd : Reg) (o : Operand2) :
    CondField.Statement (.bic c s rn rd o) :=
  encodeDp_cond c _ _ _ _ _

theorem CondField.mvn (c : Cond) (s : Bool) (rd : Reg) (o : Operand2) :
    CondField.Statement (.mvn c s rd o) :=
  encodeDp_cond c _ _ _ _ _

theorem CondField.und (c : Cond) (hi : BitVec 20) (lo : BitVec 4) :
    CondField.Statement (.und c hi lo) := by
  refine withCond_top c _ ?_
  simp (disch := omega) only [BitVec.extractLsb'_or, put_top, putBit_top, BitVec.or_self]

theorem CondField.ldr (c : Cond) (ix : Index) (rn : Reg) (rd : Reg) (off : SdtOffset) :
    CondField.Statement (.ldr c ix rn rd off) :=
  encodeSdt_cond c _ _ _ _ _ _

theorem CondField.str (c : Cond) (ix : Index) (rn : Reg) (rd : Reg) (off : SdtOffset) :
    CondField.Statement (.str c ix rn rd off) :=
  encodeSdt_cond c _ _ _ _ _ _

theorem CondField.ldrb (c : Cond) (ix : Index) (rn : Reg) (rd : Reg) (off : SdtOffset) :
    CondField.Statement (.ldrb c ix rn rd off) :=
  encodeSdt_cond c _ _ _ _ _ _

theorem CondField.strb (c : Cond) (ix : Index) (rn : Reg) (rd : Reg) (off : SdtOffset) :
    CondField.Statement (.strb c ix rn rd off) :=
  encodeSdt_cond c _ _ _ _ _ _

theorem CondField.unimplBlockTransferSBit (c : Cond) (b : Body) :
    CondField.Statement (.unimplBlockTransferSBit c b) :=
  encodeBody_cond c _

theorem CondField.ldmia (c : Cond) (w : Bool) (rn : Reg) (list : BitVec 16) :
    CondField.Statement (.ldmia c w rn list) :=
  encodeBdt_cond c _ _ _ _ _ _

theorem CondField.ldmib (c : Cond) (w : Bool) (rn : Reg) (list : BitVec 16) :
    CondField.Statement (.ldmib c w rn list) :=
  encodeBdt_cond c _ _ _ _ _ _

theorem CondField.ldmda (c : Cond) (w : Bool) (rn : Reg) (list : BitVec 16) :
    CondField.Statement (.ldmda c w rn list) :=
  encodeBdt_cond c _ _ _ _ _ _

theorem CondField.ldmdb (c : Cond) (w : Bool) (rn : Reg) (list : BitVec 16) :
    CondField.Statement (.ldmdb c w rn list) :=
  encodeBdt_cond c _ _ _ _ _ _

theorem CondField.stmia (c : Cond) (w : Bool) (rn : Reg) (list : BitVec 16) :
    CondField.Statement (.stmia c w rn list) :=
  encodeBdt_cond c _ _ _ _ _ _

theorem CondField.stmib (c : Cond) (w : Bool) (rn : Reg) (list : BitVec 16) :
    CondField.Statement (.stmib c w rn list) :=
  encodeBdt_cond c _ _ _ _ _ _

theorem CondField.stmda (c : Cond) (w : Bool) (rn : Reg) (list : BitVec 16) :
    CondField.Statement (.stmda c w rn list) :=
  encodeBdt_cond c _ _ _ _ _ _

theorem CondField.stmdb (c : Cond) (w : Bool) (rn : Reg) (list : BitVec 16) :
    CondField.Statement (.stmdb c w rn list) :=
  encodeBdt_cond c _ _ _ _ _ _

theorem CondField.b (c : Cond) (imm24 : BitVec 24) :
    CondField.Statement (.b c imm24) :=
  encodeB_cond c _ _

theorem CondField.bl (c : Cond) (imm24 : BitVec 24) :
    CondField.Statement (.bl c imm24) :=
  encodeB_cond c _ _

theorem CondField.ldc (c : Cond) (p : Bool) (u : Bool) (n : Bool) (w : Bool) (rn : BitVec 4) (crd : BitVec 4)
    (cpNum : BitVec 4) (offset8 : BitVec 8) :
    CondField.Statement (.ldc c p u n w rn crd cpNum offset8) :=
  encodeCdt_cond c _ _ _ _ _ _ _ _ _

theorem CondField.stc (c : Cond) (p : Bool) (u : Bool) (n : Bool) (w : Bool) (rn : BitVec 4) (crd : BitVec 4)
    (cpNum : BitVec 4) (offset8 : BitVec 8) :
    CondField.Statement (.stc c p u n w rn crd cpNum offset8) :=
  encodeCdt_cond c _ _ _ _ _ _ _ _ _

theorem CondField.cdp (c : Cond) (cpOpc : BitVec 4) (crn : BitVec 4) (crd : BitVec 4) (cpNum : BitVec 4)
    (cp : BitVec 3) (crm : BitVec 4) :
    CondField.Statement (.cdp c cpOpc crn crd cpNum cp crm) :=
  encodeCdo_cond c _ _ _ _ _ _

theorem CondField.mcr (c : Cond) (cpOpc : BitVec 3) (crn : BitVec 4) (rd : BitVec 4) (cpNum : BitVec 4)
    (cp : BitVec 3) (crm : BitVec 4) :
    CondField.Statement (.mcr c cpOpc crn rd cpNum cp crm) :=
  encodeCrt_cond c _ _ _ _ _ _ _

theorem CondField.mrc (c : Cond) (cpOpc : BitVec 3) (crn : BitVec 4) (rd : BitVec 4) (cpNum : BitVec 4)
    (cp : BitVec 3) (crm : BitVec 4) :
    CondField.Statement (.mrc c cpOpc crn rd cpNum cp crm) :=
  encodeCrt_cond c _ _ _ _ _ _ _

theorem CondField.swi (c : Cond) (comment : BitVec 24) :
    CondField.Statement (.swi c comment) := by
  refine withCond_top c _ ?_
  simp (disch := omega) only [BitVec.extractLsb'_or, put_top, BitVec.or_self]

theorem CondField.fmacs (c : Cond) (d : SReg) (n : SReg) (m : SReg) :
    CondField.Statement (.fmacs c d n m) :=
  vfpOp3S_cond c _ _ _ _

theorem CondField.fmacd (c : Cond) (d : DReg) (n : DReg) (m : DReg) :
    CondField.Statement (.fmacd c d n m) :=
  vfpOp3D_cond c _ _ _ _

theorem CondField.fnmacs (c : Cond) (d : SReg) (n : SReg) (m : SReg) :
    CondField.Statement (.fnmacs c d n m) :=
  vfpOp3S_cond c _ _ _ _

theorem CondField.fnmacd (c : Cond) (d : DReg) (n : DReg) (m : DReg) :
    CondField.Statement (.fnmacd c d n m) :=
  vfpOp3D_cond c _ _ _ _

theorem CondField.fmscs (c : Cond) (d : SReg) (n : SReg) (m : SReg) :
    CondField.Statement (.fmscs c d n m) :=
  vfpOp3S_cond c _ _ _ _

theorem CondField.fmscd (c : Cond) (d : DReg) (n : DReg) (m : DReg) :
    CondField.Statement (.fmscd c d n m) :=
  vfpOp3D_cond c _ _ _ _

theorem CondField.fnmscs (c : Cond) (d : SReg) (n : SReg) (m : SReg) :
    CondField.Statement (.fnmscs c d n m) :=
  vfpOp3S_cond c _ _ _ _

theorem CondField.fnmscd (c : Cond) (d : DReg) (n : DReg) (m : DReg) :
    CondField.Statement (.fnmscd c d n m) :=
  vfpOp3D_cond c _ _ _ _

theorem CondField.fmuls (c : Cond) (d : SReg) (n : SReg) (m : SReg) :
    CondField.Statement (.fmuls c d n m) :=
  vfpOp3S_cond c _ _ _ _

theorem CondField.fmuld (c : Cond) (d : DReg) (n : DReg) (m : DReg) :
    CondField.Statement (.fmuld c d n m) :=
  vfpOp3D_cond c _ _ _ _

theorem CondField.fnmuls (c : Cond) (d : SReg) (n : SReg) (m : SReg) :
    CondField.Statement (.fnmuls c d n m) :=
  vfpOp3S_cond c _ _ _ _

theorem CondField.fnmuld (c : Cond) (d : DReg) (n : DReg) (m : DReg) :
    CondField.Statement (.fnmuld c d n m) :=
  vfpOp3D_cond c _ _ _ _

theorem CondField.fadds (c : Cond) (d : SReg) (n : SReg) (m : SReg) :
    CondField.Statement (.fadds c d n m) :=
  vfpOp3S_cond c _ _ _ _

theorem CondField.faddd (c : Cond) (d : DReg) (n : DReg) (m : DReg) :
    CondField.Statement (.faddd c d n m) :=
  vfpOp3D_cond c _ _ _ _

theorem CondField.fsubs (c : Cond) (d : SReg) (n : SReg) (m : SReg) :
    CondField.Statement (.fsubs c d n m) :=
  vfpOp3S_cond c _ _ _ _

theorem CondField.fsubd (c : Cond) (d : DReg) (n : DReg) (m : DReg) :
    CondField.Statement (.fsubd c d n m) :=
  vfpOp3D_cond c _ _ _ _

theorem CondField.fdivs (c : Cond) (d : SReg) (n : SReg) (m : SReg) :
    CondField.Statement (.fdivs c d n m) :=
  vfpOp3S_cond c _ _ _ _

theorem CondField.fdivd (c : Cond) (d : DReg) (n : DReg) (m : DReg) :
    CondField.Statement (.fdivd c d n m) :=
  vfpOp3D_cond c _ _ _ _

theorem CondField.unimplVfpOpcode (c : Cond) (b : Body) :
    CondField.Statement (.unimplVfpOpcode c b) :=
  encodeBody_cond c _

theorem CondField.fcpys (c : Cond) (d : SReg) (m : SReg) :
    CondField.Statement (.fcpys c d m) := by
  refine vfpExt_cond c _ _ _ ?_
  simp (disch := omega) only [BitVec.extractLsb'_or, putSReg_top, BitVec.or_self]

theorem CondField.fcpyd (c : Cond) (d : DReg) (m : DReg) :
    CondField.Statement (.fcpyd c d m) := by
  refine vfpExt_cond c _ _ _ ?_
  simp (disch := omega) only [BitVec.extractLsb'_or, put_top, BitVec.or_self]

theorem CondField.fabss (c : Cond) (d : SReg) (m : SReg) :
    CondField.Statement (.fabss c d m) := by
  refine vfpExt_cond c _ _ _ ?_
  simp (disch := omega) only [BitVec.extractLsb'_or, putSReg_top, BitVec.or_self]

theorem CondField.fabsd (c : Cond) (d : DReg) (m : DReg) :
    CondField.Statement (.fabsd c d m) := by
  refine vfpExt_cond c _ _ _ ?_
  simp (disch := omega) only [BitVec.extractLsb'_or, put_top, BitVec.or_self]

theorem CondField.fnegs (c : Cond) (d : SReg) (m : SReg) :
    CondField.Statement (.fnegs c d m) := by
  refine vfpExt_cond c _ _ _ ?_
  simp (disch := omega) only [BitVec.extractLsb'_or, putSReg_top, BitVec.or_self]

theorem CondField.fnegd (c : Cond) (d : DReg) (m : DReg) :
    CondField.Statement (.fnegd c d m) := by
  refine vfpExt_cond c _ _ _ ?_
  simp (disch := omega) only [BitVec.extractLsb'_or, put_top, BitVec.or_self]

theorem CondField.fsqrts (c : Cond) (d : SReg) (m : SReg) :
    CondField.Statement (.fsqrts c d m) := by
  refine vfpExt_cond c _ _ _ ?_
  simp (disch := omega) only [BitVec.extractLsb'_or, putSReg_top, BitVec.or_self]

theorem CondField.fsqrtd (c : Cond) (d : DReg) (m : DReg) :
    CondField.Statement (.fsqrtd c d m) := by
  refine vfpExt_cond c _ _ _ ?_
  simp (disch := omega) only [BitVec.extractLsb'_or, put_top, BitVec.or_self]

theorem CondField.fcmps (c : Cond) (d : SReg) (m : SReg) :
    CondField.Statement (.fcmps c d m) := by
  refine vfpExt_cond c _ _ _ ?_
  simp (disch := omega) only [BitVec.extractLsb'_or, putSReg_top, BitVec.or_self]

theorem CondField.fcmpd (c : Cond) (d : DReg) (m : DReg) :
    CondField.Statement (.fcmpd c d m) := by
  refine vfpExt_cond c _ _ _ ?_
  simp (disch := omega) only [BitVec.extractLsb'_or, put_top, BitVec.or_self]

theorem CondField.fcmpes (c : Cond) (d : SReg) (m : SReg) :
    CondField.Statement (.fcmpes c d m) := by
  refine vfpExt_cond c _ _ _ ?_
  simp (disch := omega) only [BitVec.extractLsb'_or, putSReg_top, BitVec.or_self]

theorem CondField.fcmped (c : Cond) (d : DReg) (m : DReg) :
    CondField.Statement (.fcmped c d m) := by
  refine vfpExt_cond c _ _ _ ?_
  simp (disch := omega) only [BitVec.extractLsb'_or, put_top, BitVec.or_self]

theorem CondField.fcmpzs (c : Cond) (d : SReg) :
    CondField.Statement (.fcmpzs c d) := by
  refine vfpExt_cond c _ _ _ ?_
  simp (disch := omega) only [putSReg_top]

theorem CondField.fcmpzd (c : Cond) (d : DReg) :
    CondField.Statement (.fcmpzd c d) := by
  refine vfpExt_cond c _ _ _ ?_
  simp (disch := omega) only [put_top]

theorem CondField.fcmpezs (c : Cond) (d : SReg) :
    CondField.Statement (.fcmpezs c d) := by
  refine vfpExt_cond c _ _ _ ?_
  simp (disch := omega) only [putSReg_top]

theorem CondField.fcmpezd (c : Cond) (d : DReg) :
    CondField.Statement (.fcmpezd c d) := by
  refine vfpExt_cond c _ _ _ ?_
  simp (disch := omega) only [put_top]

theorem CondField.fcvtds (c : Cond) (d : DReg) (m : SReg) :
    CondField.Statement (.fcvtds c d m) := by
  refine vfpExt_cond c _ _ _ ?_
  simp (disch := omega) only [BitVec.extractLsb'_or, put_top, putSReg_top, BitVec.or_self]

theorem CondField.fcvtsd (c : Cond) (d : SReg) (m : DReg) :
    CondField.Statement (.fcvtsd c d m) := by
  refine vfpExt_cond c _ _ _ ?_
  simp (disch := omega) only [BitVec.extractLsb'_or, put_top, putSReg_top, BitVec.or_self]

theorem CondField.fuitos (c : Cond) (d : SReg) (m : SReg) :
    CondField.Statement (.fuitos c d m) := by
  refine vfpExt_cond c _ _ _ ?_
  simp (disch := omega) only [BitVec.extractLsb'_or, putSReg_top, BitVec.or_self]

theorem CondField.fuitod (c : Cond) (d : DReg) (m : SReg) :
    CondField.Statement (.fuitod c d m) := by
  refine vfpExt_cond c _ _ _ ?_
  simp (disch := omega) only [BitVec.extractLsb'_or, put_top, putSReg_top, BitVec.or_self]

theorem CondField.fsitos (c : Cond) (d : SReg) (m : SReg) :
    CondField.Statement (.fsitos c d m) := by
  refine vfpExt_cond c _ _ _ ?_
  simp (disch := omega) only [BitVec.extractLsb'_or, putSReg_top, BitVec.or_self]

theorem CondField.fsitod (c : Cond) (d : DReg) (m : SReg) :
    CondField.Statement (.fsitod c d m) := by
  refine vfpExt_cond c _ _ _ ?_
  simp (disch := omega) only [BitVec.extractLsb'_or, put_top, putSReg_top, BitVec.or_self]

theorem CondField.ftouis (c : Cond) (d : SReg) (m : SReg) :
    CondField.Statement (.ftouis c d m) := by
  refine vfpExt_cond c _ _ _ ?_
  simp (disch := omega) only [BitVec.extractLsb'_or, putSReg_top, BitVec.or_self]

theorem CondField.ftouid (c : Cond) (d : SReg) (m : DReg) :
    CondField.Statement (.ftouid c d m) := by
  refine vfpExt_cond c _ _ _ ?_
  simp (disch := omega) only [BitVec.extractLsb'_or, put_top, putSReg_top, BitVec.or_self]

theorem CondField.ftouizs (c : Cond) (d : SReg) (m : SReg) :
    CondField.Statement (.ftouizs c d m) := by
  refine vfpExt_cond c _ _ _ ?_
  simp (disch := omega) only [BitVec.extractLsb'_or, putSReg_top, BitVec.or_self]

theorem CondField.ftouizd (c : Cond) (d : SReg) (m : DReg) :
    CondField.Statement (.ftouizd c d m) := by
  refine vfpExt_cond c _ _ _ ?_
  simp (disch := omega) only [BitVec.extractLsb'_or, put_top, putSReg_top, BitVec.or_self]

theorem CondField.ftosis (c : Cond) (d : SReg) (m : SReg) :
    CondField.Statement (.ftosis c d m) := by
  refine vfpExt_cond c _ _ _ ?_
  simp (disch := omega) only [BitVec.extractLsb'_or, putSReg_top, BitVec.or_self]

theorem CondField.ftosid (c : Cond) (d : SReg) (m : DReg) :
    CondField.Statement (.ftosid c d m) := by
  refine vfpExt_cond c _ _ _ ?_
  simp (disch := omega) only [BitVec.extractLsb'_or, put_top, putSReg_top, BitVec.or_self]

theorem CondField.ftosizs (c : Cond) (d : SReg) (m : SReg) :
    CondField.Statement (.ftosizs c d m) := by
  refine vfpExt_cond c _ _ _ ?_
  simp (disch := omega) only [BitVec.extractLsb'_or, putSReg_top, BitVec.or_self]

theorem CondField.ftosizd (c : Cond) (d : SReg) (m : DReg) :
    CondField.Statement (.ftosizd c d m) := by
  refine vfpExt_cond c _ _ _ ?_
  simp (disch := omega) only [BitVec.extractLsb'_or, put_top, putSReg_top, BitVec.or_self]

theorem CondField.unimplVfpRegister (c : Cond) (b : Body) :
    CondField.Statement (.unimplVfpRegister c b) :=
  encodeBody_cond c _

theorem CondField.unimplNoCoprocessor (c : Cond) (b : Body) :
    CondField.Statement (.unimplNoCoprocessor c b) :=
  encodeBody_cond c _

theorem CondField.fmsr (c : Cond) (n : SReg) (rd : Reg) :
    CondField.Statement (.fmsr c n rd) := by
  refine vfpTransfer_cond c _ _ _ _ _ ?_
  simp (disch := omega) only [putSReg_top]

theorem CondField.fmrs (c : Cond) (n : SReg) (rd : Reg) :
    CondField.Statement (.fmrs c n rd) := by
  refine vfpTransfer_cond c _ _ _ _ _ ?_
  simp (disch := omega) only [putSReg_top]

theorem CondField.fmdlr (c : Cond) (n : DReg) (rd : Reg) :
    CondField.Statement (.fmdlr c n rd) := by
  refine vfpTransfer_cond c _ _ _ _ _ ?_
  simp (disch := omega) only [put_top]

theorem CondField.fmrdl (c : Cond) (n : DReg) (rd : Reg) :
    CondField.Statement (.fmrdl c n rd) := by
  refine vfpTransfer_cond c _ _ _ _ _ ?_
  simp (disch := omega) only [put_top]

theorem CondField.fmdhr (c : Cond) (n : DReg) (rd : Reg) :
    CondField.Statement (.fmdhr c n rd) := by
  refine vfpTransfer_cond c _ _ _ _ _ ?_
  simp (disch := omega) only [put_top]

theorem CondField.fmrdh (c : Cond) (n : DReg) (rd : Reg) :
    CondField.Statement (.fmrdh c n rd) := by
  refine vfpTransfer_cond c _ _ _ _ _ ?_
  simp (disch := omega) only [put_top]

theorem CondField.fmrx (c : Cond) (fn : BitVec 4) (rd : Reg) :
    CondField.Statement (.fmrx c fn rd) := by
  refine vfpTransfer_cond c _ _ _ _ _ ?_
  simp (disch := omega) only [put_top]

theorem CondField.fmstat (c : Cond) :
    CondField.Statement (.fmstat c) := by
  refine vfpTransfer_cond c _ _ _ _ _ ?_
  simp (disch := omega) only [put_top]

theorem CondField.fmxr (c : Cond) (fn : BitVec 4) (rd : Reg) :
    CondField.Statement (.fmxr c fn rd) := by
  refine vfpTransfer_cond c _ _ _ _ _ ?_
  simp (disch := omega) only [put_top]

theorem CondField.fmsrr (c : Cond) (rn : Reg) (rd : Reg) (m : SReg) :
    CondField.Statement (.fmsrr c rn rd m) := by
  refine vfpTwo_cond c _ _ _ _ _ ?_
  simp (disch := omega) only [putSReg_top]

theorem CondField.fmrrs (c : Cond) (rn : Reg) (rd : Reg) (m : SReg) :
    CondField.Statement (.fmrrs c rn rd m) := by
  refine vfpTwo_cond c _ _ _ _ _ ?_
  simp (disch := omega) only [putSReg_top]

theorem CondField.fmdrr (c : Cond) (rn : Reg) (rd : Reg) (m : DReg) :
    CondField.Statement (.fmdrr c rn rd m) := by
  refine vfpTwo_cond c _ _ _ _ _ ?_
  simp (disch := omega) only [put_top]

theorem CondField.fmrrd (c : Cond) (rn : Reg) (rd : Reg) (m : DReg) :
    CondField.Statement (.fmrrd c rn rd m) := by
  refine vfpTwo_cond c _ _ _ _ _ ?_
  simp (disch := omega) only [put_top]

theorem CondField.flds (c : Cond) (u : Bool) (rn : Reg) (d : SReg) (offset8 : BitVec 8) :
    CondField.Statement (.flds c u rn d offset8) := by
  refine vfpMem_cond c _ _ _ _ _ _ _ ?_
  simp (disch := omega) only [BitVec.extractLsb'_or, put_top, putSReg_top, BitVec.or_self]

theorem CondField.fsts (c : Cond) (u : Bool) (rn : Reg) (d : SReg) (offset8 : BitVec 8) :
    CondField.Statement (.fsts c u rn d offset8) := by
  refine vfpMem_cond c _ _ _ _ _ _ _ ?_
  simp (disch := omega) only [BitVec.extractLsb'_or, put_top, putSReg_top, BitVec.or_self]

theorem CondField.fldd (c : Cond) (u : Bool) (rn : Reg) (d : DReg) (offset8 : BitVec 8) :
    CondField.Statement (.fldd c u rn d offset8) := by
  refine vfpMem_cond c _ _ _ _ _ _ _ ?_
  simp (disch := omega) only [BitVec.extractLsb'_or, put_top, BitVec.or_self]

theorem CondField.fstd (c : Cond) (u : Bool) (rn : Reg) (d : DReg) (offset8 : BitVec 8) :
    CondField.Statement (.fstd c u rn d offset8) := by
  refine vfpMem_cond c _ _ _ _ _ _ _ ?_
  simp (disch := omega) only [BitVec.extractLsb'_or, put_top, BitVec.or_self]

theorem CondField.unimplVfpAddressingMode (c : Cond) (b : Body) :
    CondField.Statement (.unimplVfpAddressingMode c b) :=
  encodeBody_cond c _

theorem CondField.unimplVfpRegisterList (c : Cond) (b : Body) :
    CondField.Statement (.unimplVfpRegisterList c b) :=
  encodeBody_cond c _

theorem CondField.fldmias (c : Cond) (w : Bool) (rn : Reg) (f : SReg) (n : BitVec 8) :
    CondField.Statement (.fldmias c w rn f n) := by
  refine vfpMem_cond c _ _ _ _ _ _ _ ?_
  simp (disch := omega) only [BitVec.extractLsb'_or, put_top, putSReg_top, BitVec.or_self]

theorem CondField.fldmiad (c : Cond) (w : Bool) (rn : Reg) (f : DReg) (n : BitVec 7) :
    CondField.Statement (.fldmiad c w rn f n) := by
  refine vfpMem_cond c _ _ _ _ _ _ _ ?_
  simp (disch := omega) only [BitVec.extractLsb'_or, put_top, BitVec.or_self]

theorem CondField.fstmias (c : Cond) (w : Bool) (rn : Reg) (f : SReg) (n : BitVec 8) :
    CondField.Statement (.fstmias c w rn f n) := by
  refine vfpMem_cond c _ _ _ _ _ _ _ ?_
  simp (disch := omega) only [BitVec.extractLsb'_or, put_top, putSReg_top, BitVec.or_self]

theorem CondField.fstmiad (c : Cond) (w : Bool) (rn : Reg) (f : DReg) (n : BitVec 7) :
    CondField.Statement (.fstmiad c w rn f n) := by
  refine vfpMem_cond c _ _ _ _ _ _ _ ?_
  simp (disch := omega) only [BitVec.extractLsb'_or, put_top, BitVec.or_self]

theorem CondField.fldmdbs (c : Cond) (rn : Reg) (f : SReg) (n : BitVec 8) :
    CondField.Statement (.fldmdbs c rn f n) := by
  refine vfpMem_cond c _ _ _ _ _ _ _ ?_
  simp (disch := omega) only [BitVec.extractLsb'_or, put_top, putSReg_top, BitVec.or_self]

theorem CondField.fldmdbd (c : Cond) (rn : Reg) (f : DReg) (n : BitVec 7) :
    CondField.Statement (.fldmdbd c rn f n) := by
  refine vfpMem_cond c _ _ _ _ _ _ _ ?_
  simp (disch := omega) only [BitVec.extractLsb'_or, put_top, BitVec.or_self]

theorem CondField.fstmdbs (c : Cond) (rn : Reg) (f : SReg) (n : BitVec 8) :
    CondField.Statement (.fstmdbs c rn f n) := by
  refine vfpMem_cond c _ _ _ _ _ _ _ ?_
  simp (disch := omega) only [BitVec.extractLsb'_or, put_top, putSReg_top, BitVec.or_self]

theorem CondField.fstmdbd (c : Cond) (rn : Reg) (f : DReg) (n : BitVec 7) :
    CondField.Statement (.fstmdbd c rn f n) := by
  refine vfpMem_cond c _ _ _ _ _ _ _ ?_
  simp (disch := omega) only [BitVec.extractLsb'_or, put_top, BitVec.or_self]

end Sys2Proof.Laws
end

