-- ==== Sys2Proof/Tests/Slice0.lean ====
section
/-!
SUPPORT. The model's own tests, each by decide or by rfl on one step or one word: well-formedness refuses what it must,
a word of every instruction written out from the spec's encoding of it, vectors of spec/95_test_vectors.md, and
for every statement with hypotheses a state and operands that meet them.
-/

namespace Sys2Proof.Tests

open Sys2Proof.Machine Sys2Proof.Safety

/-! ## Helpers -/

/-- The setup of spec/95_test_vectors.md: an image of 64 KiB, Raw, the VFP unit, and some FPSID_VALUE. -/
def small : Setup := { defaultSetup with memSize := 0x10000, fpsid := 0x12345678 }

/-- A state with these registers and flags; everything else is 0. -/
def start (p : Setup) (rs : List (Reg × Word)) (flags : BitVec 4) : State :=
  rs.foldl (fun (s : State) r => s.setReg r.1 r.2)
    { State.init p (Vector.replicate 32 0) 0 0 with cpsr := flags ++ 0#28 }

/-- The state with these slots of the VFP bank. -/
def withSlots (s : State) (l : List (SReg × Word)) : State := l.foldl (fun (s : State) r => s.setSReg r.1 r.2) s

/-- The state with these little-endian values of 1, 2, 4 or 8 bytes in memory. -/
def withMem (s : State) (l : List (Nat × Nat × Nat)) : State :=
  l.foldl (fun (s : State) x => { s with mem := s.mem.writeN x.2.1 x.1 x.2.2 }) s

/-- The step of a word from a state completes, and the next state is as asked. -/
def runs (s : State) (w : Nat) (p : State → Bool) : Bool :=
  match step (s.withFetchWord 32 w) with
  | .next t => p t
  | _ => false

/-- The step of a word from a state ends in a fault as asked. -/
def stops (s : State) (w : Nat) (p : Fault → Bool) : Bool :=
  match step (s.withFetchWord 32 w) with
  | .fault f => p f
  | _ => false

/-- Single register `i` after the step of a word. -/
def singleAfter (s : State) (w : Nat) (i : SReg) : Option Word :=
  match step (s.withFetchWord 32 w) with
  | .next t => some (t.sreg i)
  | _ => none

/-- The four flags. -/
def nzcv (s : State) : BitVec 4 := s.cpsr.extractLsb' 28 4

/-! ## Well-formedness: one ill-formed term for each check -/

theorem test_wf_refuses_bodies :
    ∀ i ∈ ([.unimplHalfwordSH00 .al 0, .unimplHalfwordSignedStore .al 0x00000B0, .unimplPsrTransfer .al 0x1100000,
      .unimplFlagsWithPcDest .al 0x010E000, .unimplBadShiftEncoding .al 0x2000090, .unimplBlockTransferSBit .al 0x8000000,
      .unimplVfpOpcode .al 0xE000A00, .unimplVfpRegister .al 0xE000B00, .unimplNoCoprocessor .al 0xE000A00,
      .unimplVfpAddressingMode .al 0xC800B00, .unimplVfpRegisterList .al 0xC800A01] : List Instr),
      i.wf = false := by decide

theorem test_wf_refuses_flags_with_pc :
    ∀ i ∈ ([.and .al true 0 15 (.imm 0 0), .eor .al true 0 15 (.imm 0 0), .sub .al true 0 15 (.imm 0 0),
      .rsb .al true 0 15 (.imm 0 0), .add .al true 0 15 (.imm 0 0), .adc .al true 0 15 (.imm 0 0),
      .sbc .al true 0 15 (.imm 0 0), .rsc .al true 0 15 (.imm 0 0), .orr .al true 0 15 (.imm 0 0),
      .bic .al true 0 15 (.imm 0 0), .mov .al true 15 (.imm 0 0), .mvn .al true 15 (.imm 0 0)] : List Instr),
      i.wf = false := by decide

theorem test_wf_refuses_operands :
    ∀ i ∈ ([.fmrx .al 1 15, .fmsrr .al 0 1 31, .fmrrs .al 0 1 31, .fldmias .al false 0 0 0, .fstmias .al false 0 0 0,
      .fldmdbs .al 0 0 0, .fstmdbs .al 0 0 0, .fldmiad .al false 0 0 0, .fstmiad .al false 0 0 0,
      .fldmdbd .al 0 0 0, .fstmdbd .al 0 0 0] : List Instr), i.wf = false := by decide

/-! ## Decoding: a word of every instruction, bit by bit from spec/opcode_table.json's encoding of its row -/

/-- 30_encoding.md R86 to R89. -/
theorem test_decode_branch_exchange_swap_multiply :
    ∀ p ∈ ([
      (0x012FFF19, .bx .eq 9),
      (0x110A3099, .swp .ne 10 3 9),
      (0x214A3099, .swpb .cs 10 3 9),
      (0x30130599, .mul .cc true 3 5 9),
      (0x4033A599, .mla .mi true 3 10 5 9),
      (0x509C7599, .umull .pl true 12 7 5 9),
      (0x60BC7599, .umlal .vs true 12 7 5 9),
      (0x70DC7599, .smull .vc true 12 7 5 9),
      (0x80FC7599, .smlal .hi true 12 7 5 9)] : List (Nat × Instr)),
      decodeTableWord 32 p.1 = some p.2 := by decide

/-- 30_encoding.md R90, R105. -/
theorem test_decode_halfword :
    ∀ p ∈ ([
      (0x917A369B, .unimplHalfwordSH00 .ls 0x17A369B),
      (0xA12A30D9, .unimplHalfwordSignedStore .ge 0x12A30D9),
      (0xB17A36BB, .ldrh .lt ⟨true, false, true⟩ 10 3 (.imm 0x6B)),
      (0xC12A30B9, .strh .gt ⟨true, false, true⟩ 10 3 (.reg 9)),
      (0xD17A36DB, .ldrsb .le ⟨true, false, true⟩ 10 3 (.imm 0x6B)),
      (0xE13A30F9, .ldrsh .al ⟨true, false, true⟩ 10 3 (.reg 9))] : List (Nat × Instr)),
      decodeTableWord 32 p.1 = some p.2 := by decide

/-- 30_encoding.md R84, R105. -/
theorem test_decode_data_processing_faults :
    ∀ p ∈ ([
      (0x012A3009, .unimplPsrTransfer .eq 0x12A3009),
      (0x109AF009, .unimplFlagsWithPcDest .ne 0x09AF009),
      (0x209A35D9, .unimplBadShiftEncoding .cs 0x09A35D9)] : List (Nat × Instr)),
      decodeTableWord 32 p.1 = some p.2 := by decide

/-- 30_encoding.md R84, R85. -/
theorem test_decode_data_processing :
    ∀ p ∈ ([
      (0x321A347F, .and .cc true 10 3 (.imm 4 127)),
      (0x403A39C9, .eor .mi true 10 3 (.regImm 9 .asr 19)),
      (0x505A3559, .sub .pl true 10 3 (.regReg 9 .asr 5)),
      (0x627A347F, .rsb .vs true 10 3 (.imm 4 127)),
      (0x709A39C9, .add .vc true 10 3 (.regImm 9 .asr 19)),
      (0x80BA3559, .adc .hi true 10 3 (.regReg 9 .asr 5)),
      (0x92DA347F, .sbc .ls true 10 3 (.imm 4 127)),
      (0xA0FA39C9, .rsc .ge true 10 3 (.regImm 9 .asr 19)),
      (0xB11A3559, .tst .lt 10 (.regReg 9 .asr 5)),
      (0xC33A347F, .teq .gt 10 (.imm 4 127)),
      (0xD15A39C9, .cmp .le 10 (.regImm 9 .asr 19)),
      (0xE17A3559, .cmn .al 10 (.regReg 9 .asr 5)),
      (0x039A347F, .orr .eq true 10 3 (.imm 4 127)),
      (0x11B039C9, .mov .ne true 3 (.regImm 9 .asr 19)),
      (0x21DA3559, .bic .cs true 10 3 (.regReg 9 .asr 5)),
      (0x33F0347F, .mvn .cc true 3 (.imm 4 127))] : List (Nat × Instr)),
      decodeTableWord 32 p.1 = some p.2 := by decide

/-- 30_encoding.md R91, R92. -/
theorem test_decode_undefined_and_single_transfer :
    ∀ p ∈ ([
      (0x46B4B4BC, .und .mi 0x5A5A5 12),
      (0x573A39C9, .ldr .pl ⟨true, false, true⟩ 10 3 (.reg 9 .asr 19)),
      (0x652A3ABC, .str .vs ⟨true, false, true⟩ 10 3 (.imm 0xABC)),
      (0x777A39C9, .ldrb .vc ⟨true, false, true⟩ 10 3 (.reg 9 .asr 19)),
      (0x856A3ABC, .strb .hi ⟨true, false, true⟩ 10 3 (.imm 0xABC))] : List (Nat × Instr)),
      decodeTableWord 32 p.1 = some p.2 := by decide

/-- 30_encoding.md R93. -/
theorem test_decode_block_transfer :
    ∀ p ∈ ([
      (0x997A8421, .unimplBlockTransferSBit .ls 0x97A8421),
      (0xA8BA8421, .ldmia .ge true 10 0x8421),
      (0xB9BA8421, .ldmib .lt true 10 0x8421),
      (0xC83A8421, .ldmda .gt true 10 0x8421),
      (0xD93A8421, .ldmdb .le true 10 0x8421),
      (0xE8AA8421, .stmia .al true 10 0x8421),
      (0x09AA8421, .stmib .eq true 10 0x8421),
      (0x182A8421, .stmda .ne true 10 0x8421),
      (0x292A8421, .stmdb .cs true 10 0x8421)] : List (Nat × Instr)),
      decodeTableWord 32 p.1 = some p.2 := by decide

/-- 30_encoding.md R94 to R98. -/
theorem test_decode_branch_coprocessor_swi :
    ∀ p ∈ ([
      (0x3A800001, .b .cc 0x800001),
      (0x4B800001, .bl .mi 0x800001),
      (0x5D7AE40C, .ldc .pl true false true true 10 14 4 0xC),
      (0x6D6AE40C, .stc .vs true false true true 10 14 4 0xC),
      (0x7E52E466, .cdp .vc 5 2 14 4 3 6),
      (0x8EA23476, .mcr .hi 5 2 3 4 3 6),
      (0x9EB23476, .mrc .ls 5 2 3 4 3 6),
      (0xAF123456, .swi .ge 0x123456)] : List (Nat × Instr)),
      decodeTableWord 32 p.1 = some p.2 := by decide

/-- 49_vfp.md R364, R370, R416. -/
theorem test_decode_vfp_data :
    ∀ p ∈ ([
      (0xBE46BAA4, .fmacs .lt 23 13 9),
      (0xCE06BB04, .fmacd .gt 11 6 4),
      (0xDE46BAE4, .fnmacs .le 23 13 9),
      (0xEE06BB44, .fnmacd .al 11 6 4),
      (0x0E56BAA4, .fmscs .eq 23 13 9),
      (0x1E16BB04, .fmscd .ne 11 6 4),
      (0x2E56BAE4, .fnmscs .cs 23 13 9),
      (0x3E16BB44, .fnmscd .cc 11 6 4),
      (0x4E66BAA4, .fmuls .mi 23 13 9),
      (0x5E26BB04, .fmuld .pl 11 6 4),
      (0x6E66BAE4, .fnmuls .vs 23 13 9),
      (0x7E26BB44, .fnmuld .vc 11 6 4),
      (0x8E76BAA4, .fadds .hi 23 13 9),
      (0x9E36BB04, .faddd .ls 11 6 4),
      (0xAE76BAE4, .fsubs .ge 23 13 9),
      (0xBE36BB44, .fsubd .lt 11 6 4),
      (0xCEC6BAA4, .fdivs .gt 23 13 9),
      (0xDE86BB04, .fdivd .le 11 6 4),
      (0xEED6BBE4, .unimplVfpOpcode .al 0xED6BBE4)] : List (Nat × Instr)),
      decodeTableWord 32 p.1 = some p.2 := by decide

/-- 49_vfp.md R364, R380. -/
theorem test_decode_vfp_extension :
    ∀ p ∈ ([
      (0x0EF0BA64, .fcpys .eq 23 9),
      (0x1EB0BB44, .fcpyd .ne 11 4),
      (0x2EF0BAE4, .fabss .cs 23 9),
      (0x3EB0BBC4, .fabsd .cc 11 4),
      (0x4EF1BA64, .fnegs .mi 23 9),
      (0x5EB1BB44, .fnegd .pl 11 4),
      (0x6EF1BAE4, .fsqrts .vs 23 9),
      (0x7EB1BBC4, .fsqrtd .vc 11 4),
      (0x8EF4BA64, .fcmps .hi 23 9),
      (0x9EB4BB44, .fcmpd .ls 11 4),
      (0xAEF4BAE4, .fcmpes .ge 23 9),
      (0xBEB4BBC4, .fcmped .lt 11 4),
      (0xCEF5BA64, .fcmpzs .gt 23),
      (0xDEB5BB64, .fcmpzd .le 11),
      (0xEEF5BAE4, .fcmpezs .al 23),
      (0x0EB5BBE4, .fcmpezd .eq 11)] : List (Nat × Instr)),
      decodeTableWord 32 p.1 = some p.2 := by decide

/-- 49_vfp.md R364, R380. -/
theorem test_decode_vfp_conversion :
    ∀ p ∈ ([
      (0x1EB7BAE4, .fcvtds .ne 11 9),
      (0x2EF7BBC4, .fcvtsd .cs 23 4),
      (0x3EF8BA64, .fuitos .cc 23 9),
      (0x4EB8BB64, .fuitod .mi 11 9),
      (0x5EF8BAE4, .fsitos .pl 23 9),
      (0x6EB8BBE4, .fsitod .vs 11 9),
      (0x7EFCBA64, .ftouis .vc 23 9),
      (0x8EFCBB44, .ftouid .hi 23 4),
      (0x9EFCBAE4, .ftouizs .ls 23 9),
      (0xAEFCBBC4, .ftouizd .ge 23 4),
      (0xBEFDBA64, .ftosis .lt 23 9),
      (0xCEFDBB44, .ftosid .gt 23 4),
      (0xDEFDBAE4, .ftosizs .le 23 9),
      (0xEEFDBBC4, .ftosizd .al 23 4)] : List (Nat × Instr)),
      decodeTableWord 32 p.1 = some p.2 := by decide

/-- 49_vfp.md R404, R406, R416, R417. -/
theorem test_decode_vfp_transfer :
    ∀ p ∈ ([
      (0x0E363B90, .unimplVfpRegister .eq 0xE363B90),
      (0x2E063A90, .fmsr .cs 13 3),
      (0x3E163A90, .fmrs .cc 13 3),
      (0x4E063B10, .fmdlr .mi 6 3),
      (0x5E163B10, .fmrdl .pl 6 3),
      (0x6E263B10, .fmdhr .vs 6 3),
      (0x7E363B10, .fmrdh .vc 6 3),
      (0x8EF03A90, .fmrx .hi 0 3),
      (0x9EF1FA90, .fmstat .ls),
      (0xAEE63A90, .fmxr .ge 6 3),
      (0xBC4A3A34, .fmsrr .lt 10 3 9),
      (0xCC5A3A34, .fmrrs .gt 10 3 9),
      (0xDC4A3B14, .fmdrr .le 10 3 4),
      (0xEC5A3B14, .fmrrd .al 10 3 4)] : List (Nat × Instr)),
      decodeTableWord 32 p.1 = some p.2 := by decide

/-- 49_vfp.md R416, R418, R419. -/
theorem test_decode_vfp_memory :
    ∀ p ∈ ([
      (0x0D5ABA0C, .flds .eq false 10 23 0xC),
      (0x1D4ABA0C, .fsts .ne false 10 23 0xC),
      (0x2D1ABB0C, .fldd .cs false 10 11 0xC),
      (0x3D0ABB0C, .fstd .cc false 10 11 0xC),
      (0x4C9ABB0D, .unimplVfpAddressingMode .mi 0xC9ABB0D),
      (0x5D3ABB00, .unimplVfpRegisterList .pl 0xD3ABB00),
      (0x6CDABA0C, .fldmias .vs false 10 23 12),
      (0x7CBABB0C, .fldmiad .vc true 10 11 6),
      (0x8CCABA0C, .fstmias .hi false 10 23 12),
      (0x9CAABB0C, .fstmiad .ls true 10 11 6),
      (0xAD7ABA0C, .fldmdbs .ge 10 23 12),
      (0xBD3ABB0C, .fldmdbd .lt 10 11 6),
      (0xCD6ABA0C, .fstmdbs .gt 10 23 12),
      (0xDD2ABB0C, .fstmdbd .le 10 11 6)] : List (Nat × Instr)),
      decodeTableWord 32 p.1 = some p.2 := by decide

/-- 49_vfp.md R361: the unit's row for another coprocessor's word, which the engine's list names MCR. -/
theorem test_decode_no_coprocessor :
    decodeVfp 0x1EB23476 = .unimplNoCoprocessor .ne 0xEB23476 ∧ decodeTableWord 32 0x1EB23476 = some (.mrc .ne 5 2 3 4 3 6) := by decide

/-- The other operand form of the families that have two or three, and the ignored bits (30_encoding.md R104). -/
theorem test_decode_forms :
    ∀ p ∈ ([
      (0xE0810312, .add .al false 1 0 (.regReg 2 .lsl 3)), (0xE2810FFF, .add .al false 1 0 (.imm 15 255)),
      (0xE3AF0001, .mov .al false 0 (.imm 0 1)), (0xE0010392, .mul .al false 1 3 2),
      (0xE00A0392, .mul .al false 10 3 2), (0xE1D100B2, .ldrh .al ⟨true, true, false⟩ 1 0 (.imm 2)),
      (0xE4910004, .ldr .al ⟨false, true, false⟩ 1 0 (.imm 4)), (0xEEF03A10, .fmrx .al 0 3),
      (0xEEF13A10, .fmrx .al 1 3)] : List (Nat × Instr)),
      decodeTableWord 32 p.1 = some p.2 := by decide

/-! ## One step: vectors of spec/95_test_vectors.md section 2, at most two per instruction -/

/-- 95_test_vectors.md 2.3: `ANDS r0, r1, r2`. -/
theorem test_step_and_1 :
    runs (start small [(1, 0xF0F0F0F0), (2, 0xFF00FF0)] 0x3) 0xE0110002 (fun t => t.reg 0 == 0xF000F0 && nzcv t
      == 0x1) = true := by decide

/-- 95_test_vectors.md 2.8: `cond 1111, DP body`. -/
theorem test_step_and_2 :
    stops (start small [] 0x0) 0xF0000000
      (fun | .undefined t => t.pc == 0x4 | _ => false) = true := by decide

/-- 95_test_vectors.md 2.3: `EORS r0, r1, r2`. -/
theorem test_step_eor_1 :
    runs (start small [(1, 0xDEADBEEF), (2, 0xDEADBEEF)] 0x0) 0xE0310002 (fun t => nzcv t == 0x4) = true := by
      decide

/-- 95_test_vectors.md 2.3: `SUBS r0, r1, r2`. -/
theorem test_step_sub_1 :
    runs (start small [(1, 0xFFFFFFFF), (2, 0xFFFFFFFF)] 0x0) 0xE0510002 (fun t => nzcv t == 0x6) = true := by
      decide

/-- 95_test_vectors.md 2.3: `SUBS r0, r1, r2`. -/
theorem test_step_sub_2 :
    runs (start small [(1, 0x7FFFFFFF), (2, 0xFFFFFFFF)] 0x0) 0xE0510002 (fun t => t.reg 0 == 0x80000000 && nzcv
      t == 0x9) = true := by decide

/-- 95_test_vectors.md 2.3: `RSBS r0, r1, #0`. -/
theorem test_step_rsb_1 :
    runs (start small [(1, 0x5)] 0x0) 0xE2710000 (fun t => t.reg 0 == 0xFFFFFFFB && nzcv t == 0x8) = true := by
      decide

/-- 95_test_vectors.md 2.3: `RSBS r0, r1, #0`. -/
theorem test_step_rsb_2 :
    runs (start small [(1, 0x0)] 0x0) 0xE2710000 (fun t => nzcv t == 0x6) = true := by decide

/-- 95_test_vectors.md 2.3: `ADDS r0, r1, r2`. -/
theorem test_step_add_1 :
    runs (start small [(1, 0x7FFFFFFF), (2, 0x1)] 0x0) 0xE0910002 (fun t => t.reg 0 == 0x80000000 && nzcv t ==
      0x9) = true := by decide

/-- 95_test_vectors.md 2.3: `ADD r0, pc, r0`. -/
theorem test_step_add_2 :
    runs (start small [(15, 0x20)] 0x0) 0xE08F0000 (fun t => t.reg 0 == 0x2C) = true := by decide

/-- 95_test_vectors.md 2.3: `ADCS r0, r1, r2`. -/
theorem test_step_adc_1 :
    runs (start small [(1, 0x1), (2, 0x2)] 0x2) 0xE0B10002 (fun t => t.reg 0 == 0x4 && nzcv t == 0x0) = true :=
      by decide

/-- 95_test_vectors.md 2.3: `ADCS r0, r1, r2`. -/
theorem test_step_adc_2 :
    runs (start small [(1, 0x7FFFFFFF), (2, 0x0)] 0x2) 0xE0B10002 (fun t => t.reg 0 == 0x80000000 && nzcv t ==
      0x9) = true := by decide

/-- 95_test_vectors.md 2.3: `SBCS r0, r1, r2`. -/
theorem test_step_sbc_1 :
    runs (start small [(1, 0x5), (2, 0x3)] 0x0) 0xE0D10002 (fun t => t.reg 0 == 0x1 && nzcv t == 0x2) = true :=
      by decide

/-- 95_test_vectors.md 2.3: `SBCS r0, r1, r2`. -/
theorem test_step_sbc_2 :
    runs (start small [(1, 0x80000000), (2, 0x0)] 0x0) 0xE0D10002 (fun t => t.reg 0 == 0x7FFFFFFF && nzcv t ==
      0x3) = true := by decide

/-- 95_test_vectors.md 2.3: `RSCS r0, r1, r2`. -/
theorem test_step_rsc_1 :
    runs (start small [(1, 0x3), (2, 0x5)] 0x2) 0xE0F10002 (fun t => t.reg 0 == 0x2 && nzcv t == 0x2) = true :=
      by decide

/-- 95_test_vectors.md 2.3: `TST r1, r2`. -/
theorem test_step_tst_1 :
    runs (start small [(0, 0x63), (1, 0x80000000), (2, 0xFFFFFFFF)] 0x3) 0xE1110002 (fun t => nzcv t == 0x9) =
      true := by decide

/-- 95_test_vectors.md 2.3: `TEQ r1, r2`. -/
theorem test_step_teq_1 :
    runs (start small [(1, 0x7), (2, 0x7)] 0x0) 0xE1310002 (fun t => nzcv t == 0x4) = true := by decide

/-- 95_test_vectors.md 2.3: `CMP r1, r2`. -/
theorem test_step_cmp_1 :
    runs (start small [(1, 0x1), (2, 0x2)] 0x0) 0xE1510002 (fun t => nzcv t == 0x8) = true := by decide

/-- 95_test_vectors.md 2.3: `CMP r1, r2`. -/
theorem test_step_cmp_2 :
    runs (start small [(1, 0x80000000), (2, 0x1)] 0x0) 0xE1510002 (fun t => nzcv t == 0x3) = true := by decide

/-- 95_test_vectors.md 2.3: `CMN r1, r2`. -/
theorem test_step_cmn_1 :
    runs (start small [(1, 0xFFFFFFFF), (2, 0x1)] 0x0) 0xE1710002 (fun t => nzcv t == 0x6) = true := by decide

/-- 95_test_vectors.md 2.3: `ORRS r0, r1, r2`. -/
theorem test_step_orr_1 :
    runs (start small [(1, 0x80000000), (2, 0x1)] 0x0) 0xE1910002 (fun t => t.reg 0 == 0x80000001 && nzcv t ==
      0x8) = true := by decide

/-- 95_test_vectors.md 2.3: `MOVS r0, r1`. -/
theorem test_step_mov_1 :
    runs (start small [(1, 0x5)] 0x3) 0xE1B00001 (fun t => t.reg 0 == 0x5 && nzcv t == 0x1) = true := by decide

/-- 95_test_vectors.md 2.3: `MOVS r0, r1, LSR r2`. -/
theorem test_step_mov_2 :
    runs (start small [(1, 0x80000001), (2, 0x20)] 0x0) 0xE1B00231 (fun t => nzcv t == 0x6) = true := by decide

/-- 95_test_vectors.md 2.3: `BICS r0, r1, r2`. -/
theorem test_step_bic_1 :
    runs (start small [(1, 0xFFFFFFFF), (2, 0xFFFF)] 0x0) 0xE1D10002 (fun t => t.reg 0 == 0xFFFF0000 && nzcv t ==
      0x8) = true := by decide

/-- 95_test_vectors.md 2.3: `MVNS r0, #0`. -/
theorem test_step_mvn_1 :
    runs (start small [] 0x2) 0xE3F00000 (fun t => t.reg 0 == 0xFFFFFFFF && nzcv t == 0x8) = true := by decide

/-- 95_test_vectors.md 2.3: `MOVS pc, lr`. -/
theorem test_step_unimplFlagsWithPcDest_1 :
    stops (start small [(14, 0x48)] 0x0) 0xE1B0F00E
      (fun | .unimplemented .flagsWithPcDest t => t.pc == 0x4 | _ => false) = true := by decide

/-- 95_test_vectors.md 2.3: `TEQP r1, r2 (Rd field 15)`. -/
theorem test_step_unimplFlagsWithPcDest_2 :
    stops (start small [] 0x0) 0xE131F002
      (fun | .unimplemented .flagsWithPcDest t => t.pc == 0x4 | _ => false) = true := by decide

/-- 95_test_vectors.md 2.3: `MRS r0, CPSR (ARM)`. -/
theorem test_step_unimplPsrTransfer_1 :
    stops (start small [] 0x0) 0xE10F0000
      (fun | .unimplemented .psrTransfer t => t.pc == 0x4 | _ => false) = true := by decide

/-- 95_test_vectors.md 2.3: `MSR CPSR_fc, r0 (ARM)`. -/
theorem test_step_unimplPsrTransfer_2 :
    stops (start small [] 0x0) 0xE129F000
      (fun | .unimplemented .psrTransfer t => t.pc == 0x4 | _ => false) = true := by decide

/-- 95_test_vectors.md 2.3: `MOV r0, r1, LSL r2 with bit 7 set`. -/
theorem test_step_unimplBadShiftEncoding_1 :
    stops (start small [] 0x0) 0xE1A00291
      (fun | .unimplemented .badShiftEncoding t => t.pc == 0x4 | _ => false) = true := by decide

/-- 95_test_vectors.md 2.4: `MULS r0, r1, r2`. -/
theorem test_step_mul_1 :
    runs (start small [(1, 0x10000), (2, 0x10000)] 0x3) 0xE0100291 (fun t => nzcv t == 0x7) = true := by decide

/-- 95_test_vectors.md 2.4: `MULS pc, r1, r2`. -/
theorem test_step_mul_2 :
    runs (start small [(15, 0x20), (1, 0x2), (2, 0x30)] 0x4) 0xE01F0291 (fun t => nzcv t == 0x4 && t.pc == 0x60)
      = true := by decide

/-- 95_test_vectors.md 2.4: `MLA r0, r1, r2, r3`. -/
theorem test_step_mla_1 :
    runs (start small [(1, 0x3), (2, 0x4), (3, 0x5)] 0x0) 0xE0203291 (fun t => t.reg 0 == 0x11) = true := by decide

/-- 95_test_vectors.md 2.4: `UMULL r0, r1, r2, r3`. -/
theorem test_step_umull_1 :
    runs (start small [(2, 0xFFFFFFFF), (3, 0xFFFFFFFF)] 0x0) 0xE0810392 (fun t => t.reg 0 == 0x1 && t.reg 1 ==
      0xFFFFFFFE) = true := by decide

/-- 95_test_vectors.md 2.4: `UMULL r0, r0, r2, r3`. -/
theorem test_step_umull_2 :
    runs (start small [(2, 0xFFFFFFFF), (3, 0xFFFFFFFF)] 0x0) 0xE0800392 (fun t => t.reg 0 == 0xFFFFFFFE) = true
      := by decide

/-- 95_test_vectors.md 2.4: `UMLAL r0, r1, r2, r3`. -/
theorem test_step_umlal_1 :
    runs (start small [(0, 0xFFFFFFFF), (1, 0x0), (2, 0x2), (3, 0x3)] 0x0) 0xE0A10392 (fun t => t.reg 0 == 0x5 &&
      t.reg 1 == 0x1) = true := by decide

/-- 95_test_vectors.md 2.4: `SMULL r0, r1, r2, r3`. -/
theorem test_step_smull_1 :
    runs (start small [(2, 0xFFFFFFFF), (3, 0xFFFFFFFF)] 0x0) 0xE0C10392 (fun t => t.reg 0 == 0x1) = true := by
      decide

/-- 95_test_vectors.md 2.4: `SMULL r0, r1, r2, r3`. -/
theorem test_step_smull_2 :
    runs (start small [(2, 0x80000000), (3, 0x1)] 0x0) 0xE0C10392 (fun t => t.reg 0 == 0x80000000 && t.reg 1 ==
      0xFFFFFFFF) = true := by decide

/-- 95_test_vectors.md 2.4: `SMLAL r0, r1, r2, r3`. -/
theorem test_step_smlal_1 :
    runs (start small [(0, 0x1), (1, 0x0), (2, 0xFFFFFFFF), (3, 0x1)] 0x0) 0xE0E10392 (fun t => t.reg 0 == 0x0) =
      true := by decide

/-- 95_test_vectors.md 2.4: `SMLALS r0, r1, r2, r3`. -/
theorem test_step_smlal_2 :
    runs (start small [(0, 0xFFFFFFFF), (1, 0x7FFFFFFF), (2, 0x1), (3, 0x1)] 0x3) 0xE0F10392 (fun t => t.reg 0 ==
      0x0 && t.reg 1 == 0x80000000) = true := by decide

/-- 95_test_vectors.md 2.5: `LDR r0, [r1, #4]`. -/
theorem test_step_ldr_1 :
    runs (withMem (start small [(1, 0x1000)] 0x0) [(4, 0x1004, 0x12345678)]) 0xE5910004 (fun t => t.reg 0 ==
      0x12345678) = true := by decide

/-- 95_test_vectors.md 2.5: `LDR r0, [r1, r2, RRX]`. -/
theorem test_step_ldr_2 :
    runs (withMem (start small [(15, 0x20), (1, 0x1000), (2, 0x21)] 0x0) [(4, 0x1010, 0xAB)]) 0xE7910062 (fun t
      => t.reg 0 == 0xAB) = true := by decide

/-- 95_test_vectors.md 2.5: `STR r0, [r1, #-4]!`. -/
theorem test_step_str_1 :
    runs (start small [(0, 0xCAFEBABE), (1, 0x2000)] 0x0) 0xE5210004 (fun t => t.reg 1 == 0x1FFC && t.mem.readN
      0x1FFC 4 == 0xCAFEBABE) = true := by decide

/-- 95_test_vectors.md 2.5: `STR pc, [r1]`. -/
theorem test_step_str_2 :
    runs (start small [(15, 0x20), (1, 0x1000)] 0x0) 0xE581F000 (fun t => t.mem.readN 0x1000 4 == 0x30) = true :=
      by decide

/-- 95_test_vectors.md 2.5: `LDRB r0, [r1]`. -/
theorem test_step_ldrb_1 :
    runs (withMem (start small [(1, 0x1000)] 0x0) [(1, 0x1000, 0xFF)]) 0xE5D10000 (fun t => t.reg 0 == 0xFF) =
      true := by decide

/-- 95_test_vectors.md 2.5: `STRB r0, [r1]`. -/
theorem test_step_strb_1 :
    runs (start small [(0, 0x12345678), (1, 0x1001)] 0x0) 0xE5C10000 (fun t => t.mem.readN 0x1001 1 == 0x78) =
      true := by decide

/-- 95_test_vectors.md 2.5: `LDRH r0, [r1, #2]`. -/
theorem test_step_ldrh_1 :
    runs (withMem (start small [(1, 0x1000)] 0x0) [(2, 0x1002, 0xABCD)]) 0xE1D100B2 (fun t => t.reg 0 == 0xABCD)
      = true := by decide

/-- 95_test_vectors.md 2.5: `LDRH r0, [r1], #2`. -/
theorem test_step_ldrh_2 :
    runs (withMem (start small [(1, 0x1000)] 0x0) [(2, 0x1000, 0xBEEF)]) 0xE0D100B2 (fun t => t.reg 0 == 0xBEEF
      && t.reg 1 == 0x1002) = true := by decide

/-- 95_test_vectors.md 2.5: `STRH r0, [r1, #2]`. -/
theorem test_step_strh_1 :
    runs (start small [(0, 0x12345678), (1, 0x1000)] 0x0) 0xE1C100B2 (fun t => t.mem.readN 0x1002 2 == 0x5678) =
      true := by decide

/-- 95_test_vectors.md 2.5: `STRH pc, [r1]`. -/
theorem test_step_strh_2 :
    runs (start small [(15, 0x20), (1, 0x1000)] 0x0) 0xE1C1F0B0 (fun t => t.mem.readN 0x1000 2 == 0x2C) = true :=
      by decide

/-- 95_test_vectors.md 2.5: `LDRSB r0, [r1]`. -/
theorem test_step_ldrsb_1 :
    runs (withMem (start small [(1, 0x1000)] 0x0) [(1, 0x1000, 0x80)]) 0xE1D100D0 (fun t => t.reg 0 ==
      0xFFFFFF80) = true := by decide

/-- 95_test_vectors.md 2.5: `LDRSB r0, [r1, #0xFF]`. -/
theorem test_step_ldrsb_2 :
    runs (withMem (start small [(1, 0x1000)] 0x0) [(1, 0x10FF, 0x81)]) 0xE1D10FDF (fun t => t.reg 0 ==
      0xFFFFFF81) = true := by decide

/-- 95_test_vectors.md 2.5: `LDRSH r0, [r1]`. -/
theorem test_step_ldrsh_1 :
    runs (withMem (start small [(1, 0x1000)] 0x0) [(2, 0x1000, 0x8000)]) 0xE1D100F0 (fun t => t.reg 0 ==
      0xFFFF8000) = true := by decide

/-- 95_test_vectors.md 2.5: `SWP r0, r2, [r1]`. -/
theorem test_step_swp_1 :
    runs (withMem (start small [(1, 0x1000), (2, 0x11111111)] 0x0) [(4, 0x1000, 0x22222222)]) 0xE1010092 (fun t
      => t.reg 0 == 0x22222222 && t.mem.readN 0x1000 4 == 0x11111111) = true := by decide

/-- 95_test_vectors.md 2.5: `SWPB r0, r2, [r1]`. -/
theorem test_step_swpb_1 :
    runs (withMem (start small [(1, 0x1000), (2, 0xAABBCCDD)] 0x0) [(1, 0x1000, 0x5A)]) 0xE1410092 (fun t =>
      t.reg 0 == 0x5A && t.mem.readN 0x1000 1 == 0xDD) = true := by decide

/-- 95_test_vectors.md 2.5: `halfword S:H = 00, register form`. -/
theorem test_step_unimplHalfwordSH00_1 :
    stops (start small [] 0x0) 0xE1200090
      (fun | .unimplemented .halfwordSH00 t => t.pc == 0x4 | _ => false) = true := by decide

/-- 95_test_vectors.md 2.5: `halfword S:H = 00, immediate form`. -/
theorem test_step_unimplHalfwordSH00_2 :
    stops (start small [] 0x0) 0xE0400090
      (fun | .unimplemented .halfwordSH00 t => t.pc == 0x4 | _ => false) = true := by decide

/-- 95_test_vectors.md 2.5: `STRSB-encoding (L = 0, S:H = 10)`. -/
theorem test_step_unimplHalfwordSignedStore_1 :
    stops (start small [] 0x0) 0xE1C100D0
      (fun | .unimplemented .halfwordSignedStore t => t.pc == 0x4 | _ => false) = true := by decide

/-- 95_test_vectors.md 2.5: `STRSH-encoding (L = 0, S:H = 11)`. -/
theorem test_step_unimplHalfwordSignedStore_2 :
    stops (start small [] 0x0) 0xE1C100F0
      (fun | .unimplemented .halfwordSignedStore t => t.pc == 0x4 | _ => false) = true := by decide

/-- 95_test_vectors.md 2.6: `LDMIA r13!, {r4, r15}`. -/
theorem test_step_ldmia_1 :
    runs (withMem (start small [(13, 0x2000)] 0x0) [(4, 0x2000, 0x44), (4, 0x2004, 0x100)]) 0xE8BD8010 (fun t =>
      t.reg 4 == 0x44 && t.reg 13 == 0x2008) = true := by decide

/-- 95_test_vectors.md 2.6: `LDMIA r1, {r1, r2}`. -/
theorem test_step_ldmia_2 :
    runs (withMem (start small [(1, 0x1000)] 0x0) [(4, 0x1000, 0x5555), (4, 0x1004, 0x66)]) 0xE8910006 (fun t =>
      t.reg 1 == 0x5555 && t.reg 2 == 0x66) = true := by decide

/-- 95_test_vectors.md 2.6: `LDMDB r13!, {r0, r1}`. -/
theorem test_step_ldmdb_1 :
    runs (withMem (start small [(13, 0x2008)] 0x0) [(4, 0x2000, 0xA), (4, 0x2004, 0xB)]) 0xE93D0003 (fun t =>
      t.reg 0 == 0xA && t.reg 1 == 0xB) = true := by decide

/-- 95_test_vectors.md 2.6: `STMIA r13!, {r0, r1}`. -/
theorem test_step_stmia_1 :
    runs (start small [(0, 0xA), (1, 0xB), (13, 0x2000)] 0x0) 0xE8AD0003 (fun t => t.reg 13 == 0x2008 &&
      t.mem.readN 0x2000 4 == 0xA) = true := by decide

/-- 95_test_vectors.md 2.6: `STMIA r1, {pc}`. -/
theorem test_step_stmia_2 :
    runs (start small [(15, 0x20), (1, 0x1000)] 0x0) 0xE8818000 (fun t => t.mem.readN 0x1000 4 == 0x2C) = true :=
      by decide

/-- 95_test_vectors.md 2.6: `STMDB r13!, {r4, r14}`. -/
theorem test_step_stmdb_1 :
    runs (start small [(4, 0x44), (13, 0x2008), (14, 0x100)] 0x0) 0xE92D4010 (fun t => t.reg 13 == 0x2000 &&
      t.mem.readN 0x2004 4 == 0x100) = true := by decide

/-- 95_test_vectors.md 2.6: `STMIB r1, {r0, r1}`. -/
theorem test_step_stmib_1 :
    runs (start small [(0, 0xA), (1, 0x1000)] 0x0) 0xE9810003 (fun t => t.mem.readN 0x1004 4 == 0xA &&
      t.mem.readN 0x1008 4 == 0x1000) = true := by decide

/-- 95_test_vectors.md 2.6: `STMDA r1, {r0, r1}`. -/
theorem test_step_stmda_1 :
    runs (start small [(0, 0xA), (1, 0x1000)] 0x0) 0xE8010003 (fun t => t.mem.readN 0x1000 4 == 0x1000 &&
      t.mem.readN 0xFFC 4 == 0xA) = true := by decide

/-- 95_test_vectors.md 2.6: `LDMIA r1, {r0, r1}^ (S = 1)`. -/
theorem test_step_unimplBlockTransferSBit_1 :
    stops (start small [(1, 0x1000)] 0x0) 0xE8D10003
      (fun | .unimplemented .blockTransferSBit t => t.pc == 0x4 | _ => false) = true := by decide

/-- 95_test_vectors.md 2.6: `STMIA r1, {r0, r1}^ (S = 1)`. -/
theorem test_step_unimplBlockTransferSBit_2 :
    stops (start small [(1, 0x1000)] 0x0) 0xE8C10003
      (fun | .unimplemented .blockTransferSBit t => t.pc == 0x4 | _ => false) = true := by decide

/-- 95_test_vectors.md 2.7: `B .`. -/
theorem test_step_b_1 :
    runs (start small [(15, 0x100)] 0x0) 0xEAFFFFFE (fun t => t.pc == 0x100) = true := by decide

/-- 95_test_vectors.md 2.7: `B (imm24 = 0x7FFFFF)`. -/
theorem test_step_b_2 :
    runs (start small [] 0x0) 0xEA7FFFFF (fun t => t.pc == 0x2000004) = true := by decide

/-- 95_test_vectors.md 2.7: `BL +0xF8`. -/
theorem test_step_bl_1 :
    runs (start small [(15, 0x100)] 0x0) 0xEB00003E (fun t => t.reg 14 == 0x104 && t.pc == 0x200) = true := by
      decide

/-- 95_test_vectors.md 2.7: `BL .`. -/
theorem test_step_bl_2 :
    runs (start small [(15, 0x20)] 0x0) 0xEBFFFFFE (fun t => t.reg 14 == 0x24 && t.pc == 0x20) = true := by decide

/-- 95_test_vectors.md 2.7: `BX r14`. -/
theorem test_step_bx_1 :
    runs (start small [(14, 0x104)] 0x0) 0xE12FFF1E (fun t => t.pc == 0x104) = true := by decide

/-- 95_test_vectors.md 2.7: `BX pc`. -/
theorem test_step_bx_2 :
    runs (start small [(15, 0x20)] 0x0) 0xE12FFF1F (fun t => t.pc == 0x24) = true := by decide

/-- 95_test_vectors.md 2.8: `SWINE 1`. -/
theorem test_step_swi_1 :
    runs (start small [(15, 0x10)] 0x4) 0x1F000001 (fun t => nzcv t == 0x4) = true := by decide

/-- 95_test_vectors.md 2.8: `undefined format`. -/
theorem test_step_und_1 :
    stops (start small [] 0x0) 0xE7F000F0
      (fun | .undefined t => t.pc == 0x4 | _ => false) = true := by decide

/-- 95_test_vectors.md 2.8: `undefined format, cond EQ, Z = 0`. -/
theorem test_step_und_2 :
    stops (start small [] 0x0) 0x07F000F0
      (fun | .undefined t => t.pc == 0x4 | _ => false) = true := by decide

/-- 95_test_vectors.md 2.9: `LDC p10 (FLDS s0, [r0])`. -/
theorem test_step_flds_1 :
    stops (start ({ small with coproc := .absent }) [] 0x0) 0xED900A00
      (fun | .unimplemented .noCoprocessor t => t.pc == 0x4 | _ => false) = true := by decide

/-- 95_test_vectors.md 2.9: `FLDS s1, [r0, #-4]`. -/
theorem test_step_flds_2 :
    runs (withMem (start small [(0, 0x1004)] 0x0) [(4, 0x1000, 0x40000000)]) 0xED500A01 (fun t => t.sreg 1 ==
      0x40000000) = true := by decide

/-- 95_test_vectors.md 2.9: `MRC p10 (FMRS r0, s0)`. -/
theorem test_step_fmrs_1 :
    stops (start ({ small with coproc := .absent }) [] 0x0) 0xEE100A10
      (fun | .unimplemented .noCoprocessor t => t.pc == 0x4 | _ => false) = true := by decide

/-- 95_test_vectors.md 2.9: `FMRS pc, s0`. -/
theorem test_step_fmrs_2 :
    runs (withSlots (start small [(15, 0x20)] 0x4) [(0, 0x300)]) 0xEE10FA10 (fun t => nzcv t == 0x4 && t.pc ==
      0x300) = true := by decide

/-- 95_test_vectors.md 2.9: `MCR p15, 0, r0, c1, c0, 0`. -/
theorem test_step_mcr_1 :
    stops (start small [] 0x0) 0xEE010F10
      (fun | .unimplemented .noCoprocessor t => t.pc == 0x4 | _ => false) = true := by decide

/-- 95_test_vectors.md 2.9: `CDP p0`. -/
theorem test_step_cdp_1 :
    stops (start small [] 0x0) 0xEE000000
      (fun | .unimplemented .noCoprocessor t => t.pc == 0x4 | _ => false) = true := by decide

/-- 95_test_vectors.md 2.9: `FMSR s1, r1`. -/
theorem test_step_fmsr_1 :
    runs (start small [(1, 0xDEADBEEF)] 0x0) 0xEE001A90 (fun t => t.sreg 1 == 0xDEADBEEF) = true := by decide

/-- 95_test_vectors.md 2.9: `FMSR s0, pc`. -/
theorem test_step_fmsr_2 :
    runs (start small [(15, 0x20)] 0x0) 0xEE00FA10 (fun t => t.sreg 0 == 0x24) = true := by decide

/-- 95_test_vectors.md 2.9: `FMRDL r1, d1`. -/
theorem test_step_fmrdl_1 :
    runs (withSlots (start small [] 0x0) [(2, 0x11111111), (3, 0x22222222)]) 0xEE111B10 (fun t => t.reg 1 ==
      0x11111111) = true := by decide

/-- 95_test_vectors.md 2.9: `FMRDH r1, d1`. -/
theorem test_step_fmrdh_1 :
    runs (withSlots (start small [] 0x0) [(2, 0x11111111), (3, 0x22222222)]) 0xEE311B10 (fun t => t.reg 1 ==
      0x22222222) = true := by decide

/-- 95_test_vectors.md 2.9: `FMDLR d0, r0`. -/
theorem test_step_fmdlr_1 :
    runs (withSlots (start small [(0, 0x55)] 0x0) [(0, 0x1), (1, 0x2)]) 0xEE000B10 (fun t => t.sreg 0 == 0x55) =
      true := by decide

/-- 95_test_vectors.md 2.9: `FMDHR d0, r0`. -/
theorem test_step_fmdhr_1 :
    runs (withSlots (start small [(0, 0x55)] 0x0) [(0, 0x1), (1, 0x2)]) 0xEE200B10 (fun t => t.sreg 1 == 0x55) =
      true := by decide

/-- 95_test_vectors.md 2.9: `FMDRR d0, r0, r1`. -/
theorem test_step_fmdrr_1 :
    runs (start small [(0, 0x0), (1, 0x3FF00000)] 0x0) 0xEC410B10 (fun t => t.sreg 1 == 0x3FF00000) = true := by
      decide

/-- 95_test_vectors.md 2.9: `FMRRD r1, r2, d3`. -/
theorem test_step_fmrrd_1 :
    runs (withSlots (start small [] 0x0) [(6, 0x1), (7, 0x2)]) 0xEC521B13 (fun t => t.reg 1 == 0x1 && t.reg 2 ==
      0x2) = true := by decide

/-- 95_test_vectors.md 2.9: `FMRRD r1, r1, d3`. -/
theorem test_step_fmrrd_2 :
    runs (withSlots (start small [] 0x0) [(6, 0x1), (7, 0x2)]) 0xEC511B13 (fun t => t.reg 1 == 0x2) = true := by
      decide

/-- 95_test_vectors.md 2.9: `FMSRR {s30, s31}, r1, r2`. -/
theorem test_step_fmsrr_1 :
    runs (start small [(1, 0x11), (2, 0x22)] 0x0) 0xEC421A1F (fun t => t.sreg 30 == 0x11 && t.sreg 31 == 0x22) =
      true := by decide

/-- 95_test_vectors.md 2.9: `FMSRR {s31, -}, r1, r2`. -/
theorem test_step_unimplVfpRegister_1 :
    stops (start small [(1, 0x11), (2, 0x22)] 0x0) 0xEC421A3F
      (fun | .unimplemented .vfpRegister t => t.pc == 0x4 | _ => false) = true := by decide

/-- 95_test_vectors.md 2.9: `FADDD d0, d1, d2 with Nx = 1`. -/
theorem test_step_unimplVfpRegister_2 :
    stops (start small [] 0x0) 0xEE310B82
      (fun | .unimplemented .vfpRegister t => t.pc == 0x4 | _ => false) = true := by decide

/-- 95_test_vectors.md 2.9: `FMRRS r0, r1, {s0, s1}`. -/
theorem test_step_fmrrs_1 :
    runs (withSlots (start small [] 0x0) [(0, 0x7), (1, 0x8)]) 0xEC510A10 (fun t => t.reg 0 == 0x7 && t.reg 1 ==
      0x8) = true := by decide

/-- 95_test_vectors.md 2.9: `FMRX r0, FPSID`. -/
theorem test_step_fmrx_1 :
    runs (start small [] 0x0) 0xEEF00A10 (fun t => t.reg 0 == 0x12345678) = true := by decide

/-- 95_test_vectors.md 2.9: `FMRX r0, FPSCR`. -/
theorem test_step_fmrx_2 :
    stops (start small [] 0x0) 0xEEF10A10
      (fun | .unimplemented .vfpSystemRegister t => t.pc == 0x4 | _ => false) = true := by decide

/-- 95_test_vectors.md 2.9: `FMXR FPSCR, r0`. -/
theorem test_step_fmxr_1 :
    stops (start small [] 0x0) 0xEEE10A10
      (fun | .unimplemented .vfpSystemRegister t => t.pc == 0x4 | _ => false) = true := by decide

/-- 95_test_vectors.md 2.9: `FMXR FPEXC, r0`. -/
theorem test_step_fmxr_2 :
    stops (start small [] 0x0) 0xEEE80A10
      (fun | .unimplemented .vfpSystemRegister t => t.pc == 0x4 | _ => false) = true := by decide

/-- 95_test_vectors.md 2.9: `FMSTAT`. -/
theorem test_step_fmstat_1 :
    stops (start small [] 0x0) 0xEEF1FA10
      (fun | .unimplemented .vfpSystemRegister t => t.pc == 0x4 | _ => false) = true := by decide

/-- 95_test_vectors.md 2.9: `MCR p10, 1 (no VFP meaning)`. -/
theorem test_step_unimplVfpOpcode_1 :
    stops (start small [] 0x0) 0xEE200A10
      (fun | .unimplemented .vfpOpcode t => t.pc == 0x4 | _ => false) = true := by decide

/-- 95_test_vectors.md 2.9: `VFP pqrs = 1001`. -/
theorem test_step_unimplVfpOpcode_2 :
    stops (start small [] 0x0) 0xEE800A40
      (fun | .unimplemented .vfpOpcode t => t.pc == 0x4 | _ => false) = true := by decide

/-- 95_test_vectors.md 2.9: `FCPYS s1, s2`. -/
theorem test_step_fcpys_1 :
    runs (withSlots (start small [] 0x0) [(2, 0x7FC12345)]) 0xEEF00A41 (fun t => t.sreg 1 == 0x7FC12345) = true
      := by decide

/-- 95_test_vectors.md 2.9: `FCPYD d1, d2`. -/
theorem test_step_fcpyd_1 :
    runs (withSlots (start small [] 0x0) [(4, 0xAAAA0001), (5, 0xBBBB0002)]) 0xEEB01B42 (fun t => t.sreg 2 ==
      0xAAAA0001 && t.sreg 3 == 0xBBBB0002) = true := by decide

/-- 95_test_vectors.md 2.9: `FABSS s0, s0`. -/
theorem test_step_fabss_1 :
    runs (withSlots (start small [] 0x0) [(0, 0xBF800000)]) 0xEEB00AC0 (fun t => t.sreg 0 == 0x3F800000) = true
      := by decide

/-- 95_test_vectors.md 2.9: `FABSD d1, d2`. -/
theorem test_step_fabsd_1 :
    runs (withSlots (start small [] 0x0) [(4, 0xAAAA0001), (5, 0xBBBB0002)]) 0xEEB01BC2 (fun t => t.sreg 2 ==
      0xAAAA0001 && t.sreg 3 == 0x3BBB0002) = true := by decide

/-- 95_test_vectors.md 2.9: `FNEGS s0, s0`. -/
theorem test_step_fnegs_1 :
    runs (withSlots (start small [] 0x0) [(0, 0x0)]) 0xEEB10A40 (fun t => t.sreg 0 == 0x80000000) = true := by
      decide

/-- 95_test_vectors.md 2.9: `FNEGD d1, d2`. -/
theorem test_step_fnegd_1 :
    runs (withSlots (start small [] 0x0) [(4, 0xAAAA0001), (5, 0x3BBB0002)]) 0xEEB11B42 (fun t => t.sreg 2 ==
      0xAAAA0001 && t.sreg 3 == 0xBBBB0002) = true := by decide

/-- 95_test_vectors.md 2.9: `FCMPS s0, s1`. -/
theorem test_step_fcmps_1 :
    runs (withSlots (start small [] 0x0) [(0, 0x3F800000), (1, 0x40000000)]) 0xEEB40A60 (fun t => nzcv t == 0x8)
      = true := by decide

/-- 95_test_vectors.md 2.9: `FCMPS s0, s1`. -/
theorem test_step_fcmps_2 :
    runs (withSlots (start small [] 0x0) [(0, 0x7F800000), (1, 0x7F800000)]) 0xEEB40A60 (fun t => nzcv t == 0x6)
      = true := by decide

/-- 95_test_vectors.md 2.9: `FCMPES s0, s1`. -/
theorem test_step_fcmpes_1 :
    runs (withSlots (start small [] 0x0) [(0, 0x40000000), (1, 0x3F800000)]) 0xEEB40AE0 (fun t => nzcv t == 0x2)
      = true := by decide

/-- 95_test_vectors.md 2.9: `FCMPZS s0`. -/
theorem test_step_fcmpzs_1 :
    runs (withSlots (start small [] 0x0) [(0, 0x40000000)]) 0xEEB50A40 (fun t => nzcv t == 0x2) = true := by decide

/-- 95_test_vectors.md 2.9: `FCMPZS s0`. -/
theorem test_step_fcmpzs_2 :
    runs (withSlots (start small [] 0x0) [(0, 0x80000001)]) 0xEEB50A40 (fun t => nzcv t == 0x8) = true := by decide

/-- 95_test_vectors.md 2.9: `FCMPEZS s0`. -/
theorem test_step_fcmpezs_1 :
    runs (withSlots (start small [] 0x0) [(0, 0x80000000)]) 0xEEB50AC0 (fun t => nzcv t == 0x6) = true := by decide

/-- 95_test_vectors.md 2.9: `FCMPD d0, d1`. -/
theorem test_step_fcmpd_1 :
    runs (withSlots (start small [] 0x0) [(1, 0x3FF00000), (3, 0x40000000)]) 0xEEB40B41 (fun t => nzcv t == 0x8)
      = true := by decide +kernel

/-- 95_test_vectors.md 2.9: `FCMPD d0, d1`. -/
theorem test_step_fcmpd_2 :
    runs (withSlots (start small [] 0x0) [(1, 0x7FF80000), (3, 0x40000000)]) 0xEEB40B41 (fun t => nzcv t == 0x1)
      = true := by decide +kernel

/-- 95_test_vectors.md 2.9: `FCMPZD d0`. -/
theorem test_step_fcmpzd_1 :
    runs (withSlots (start small [] 0x0) [(1, 0x80000000)]) 0xEEB50B40 (fun t => nzcv t == 0x6) = true := by
      decide +kernel

/-- 95_test_vectors.md 2.9: `FSTS s0, [r0]`. -/
theorem test_step_fsts_1 :
    runs (withSlots (start small [(0, 0x1000)] 0x0) [(0, 0x3F800000)]) 0xED800A00 (fun t => t.mem.readN 0x1000 4
      == 0x3F800000) = true := by decide

/-- 95_test_vectors.md 2.9: `FLDD d1, [r2, #8]`. -/
theorem test_step_fldd_1 :
    runs (withMem (start small [(2, 0x1000)] 0x0) [(8, 0x1008, 0x4000000000000001)]) 0xED921B02 (fun t => t.sreg
      2 == 0x1 && t.sreg 3 == 0x40000000) = true := by decide

/-- 95_test_vectors.md 2.9: `FLDD d1, [r2, #8]`. -/
theorem test_step_fldd_2 :
    runs (withMem (start small [(2, 0x1001)] 0x0) [(8, 0x1009, 0x4000000000000001)]) 0xED921B02 (fun t => t.sreg
      2 == 0x1 && t.sreg 3 == 0x40000000) = true := by decide

/-- 95_test_vectors.md 2.9: `FSTD d0, [r0]`. -/
theorem test_step_fstd_1 :
    runs (withSlots (start small [(0, 0x1000)] 0x0) [(0, 0x55), (1, 0x66)]) 0xED800B00 (fun t => t.mem.readN
      0x1000 8 == 0x6600000055) = true := by decide

/-- 95_test_vectors.md 2.9: `FLDMIAS r0!, {s0-s3}`. -/
theorem test_step_fldmias_1 :
    runs (withMem (start small [(0, 0x1000)] 0x0) [(4, 0x1000, 0x1), (4, 0x1004, 0x2), (4, 0x1008, 0x3), (4,
      0x100C, 0x4)]) 0xECB00A04 (fun t => t.reg 0 == 0x1010 && t.sreg 0 == 0x1) = true := by decide

/-- 95_test_vectors.md 2.9: `FLDMIAS r0!, {s0-s3}`. -/
theorem test_step_fldmias_2 :
    stops (withMem (start small [(0, 0xFFF8)] 0x0) [(4, 0xFFF8, 0x1), (4, 0xFFFC, 0x2)]) 0xECB00A04
      (fun | .memory f t => f == .outOfRange 0x10000 4 && t.pc == 0x4 | _ => false) = true := by decide

/-- 95_test_vectors.md 2.9: `FLDMIAD r0, {d0-d1}`. -/
theorem test_step_fldmiad_1 :
    runs (withMem (start small [(0, 0x1000)] 0x0) [(8, 0x1000, 0x200000001), (8, 0x1008, 0x400000003)])
      0xEC900B04 (fun t => t.sreg 0 == 0x1 && t.sreg 1 == 0x2) = true := by decide

/-- 95_test_vectors.md 2.9: `FLDMIAD r0, {d15-d16}`. -/
theorem test_step_fldmiad_2 :
    stops (start small [(0, 0x1000)] 0x0) 0xEC90FB04
      (fun | .unimplemented .vfpRegisterList t => t.pc == 0x4 | _ => false) = true := by decide

/-- 95_test_vectors.md 2.9: `FLDMDBS r0!, {s0-s1}`. -/
theorem test_step_fldmdbs_1 :
    runs (withMem (start small [(0, 0x1008)] 0x0) [(4, 0x1000, 0x7), (4, 0x1004, 0x8)]) 0xED300A02 (fun t =>
      t.reg 0 == 0x1000 && t.sreg 0 == 0x7) = true := by decide

/-- 95_test_vectors.md 2.9: `FSTMIAS r0, {s0-s1}`. -/
theorem test_step_fstmias_1 :
    runs (withSlots (start small [(0, 0x1000)] 0x0) [(0, 0x7), (1, 0x8)]) 0xEC800A02 (fun t => t.mem.readN 0x1000
      4 == 0x7 && t.mem.readN 0x1004 4 == 0x8) = true := by decide

/-- 95_test_vectors.md 2.9: `FSTMDBD r13!, {d0-d1}`. -/
theorem test_step_fstmdbd_1 :
    runs (withSlots (start small [(13, 0x2010)] 0x0) [(0, 0x1), (1, 0x2), (2, 0x3), (3, 0x4)]) 0xED2D0B04 (fun t
      => t.reg 13 == 0x2000 && t.mem.readN 0x2000 8 == 0x200000001) = true := by decide

/-- 95_test_vectors.md 2.9: `FLDMIAX r0, {d0} (odd offset8)`. -/
theorem test_step_unimplVfpAddressingMode_1 :
    stops (start small [(0, 0x1000)] 0x0) 0xEC900B03
      (fun | .unimplemented .vfpAddressingMode t => t.pc == 0x4 | _ => false) = true := by decide

/-- 95_test_vectors.md 2.9: `CDT (P,U,W) = (0,0,1)`. -/
theorem test_step_unimplVfpAddressingMode_2 :
    stops (start small [(0, 0x1000)] 0x0) 0xEC300A02
      (fun | .unimplemented .vfpAddressingMode t => t.pc == 0x4 | _ => false) = true := by decide

/-- 95_test_vectors.md 2.9: `FLDMIAS r0, {} (n = 0)`. -/
theorem test_step_unimplVfpRegisterList_1 :
    stops (start small [(0, 0x1000)] 0x0) 0xEC900A00
      (fun | .unimplemented .vfpRegisterList t => t.pc == 0x4 | _ => false) = true := by decide

/-- 95_test_vectors.md 2.9b: `FTOUIZS s0, s0`. -/
theorem test_step_ftouizs_1 :
    runs (withSlots (start small [] 0x0) [(0, 0x40700000)]) 0xEEBC0AC0 (fun t => t.sreg 0 == 0x3) = true := by
      decide

/-- 95_test_vectors.md 2.9b: `FTOSIZS s0, s0`. -/
theorem test_step_ftosizs_1 :
    runs (withSlots (start small [] 0x0) [(0, 0xC0700000)]) 0xEEBD0AC0 (fun t => t.sreg 0 == 0xFFFFFFFD) = true
      := by decide

/-- 95_test_vectors.md 2.9b: `FTOSIZS s0, s0`. -/
theorem test_step_ftosizs_2 :
    runs (withSlots (start small [] 0x0) [(0, 0xCF000000)]) 0xEEBD0AC0 (fun t => t.sreg 0 == 0x80000000) = true
      := by decide

/-- 95_test_vectors.md 2.9b: `FTOSIZD s0, d0`. -/
theorem test_step_ftosizd_1 :
    runs (withSlots (start small [] 0x0) [(0, 0x0), (1, 0xC00C0000)]) 0xEEBD0BC0 (fun t => t.sreg 0 ==
      0xFFFFFFFD) = true := by decide +kernel

/-- 95_test_vectors.md 2.9b: `FTOUIZD s0, d0`. -/
theorem test_step_ftouizd_1 :
    runs (withSlots (start small [] 0x0) [(0, 0xFFE00000), (1, 0x41EFFFFF)]) 0xEEBC0BC0 (fun t => t.sreg 0 ==
      0xFFFFFFFF) = true := by decide +kernel

/-! ## One step: words with no vector in that file, the results worked out from the rules -/

/-- 45_block_transfer.md R281, R289: `LDMIB r0!, {r1, r2}` reads from 0x104 and 0x108. -/
theorem test_step_ldmib_1 :
    runs (withMem (start small [(0, 0x100)] 0) [(4, 0x104, 0x11), (4, 0x108, 0x22)]) 0xE9B00006
      (fun t => t.reg 1 == 0x11 && t.reg 2 == 0x22 && t.reg 0 == 0x108) = true := by decide

/-- 45_block_transfer.md R281, R289: `LDMDA r0!, {r1, r2}` reads `r2` at 0x100 and `r1` at 0xFC. -/
theorem test_step_ldmda_1 :
    runs (withMem (start small [(0, 0x100)] 0) [(4, 0xFC, 0x11), (4, 0x100, 0x22)]) 0xE8300006
      (fun t => t.reg 1 == 0x11 && t.reg 2 == 0x22 && t.reg 0 == 0xF8) = true := by decide

/-- 49_vfp.md R415, R419: `FSTMIAD r0!, {d1, d2}`: 16 bytes from 0x100. -/
theorem test_step_fstmiad_1 :
    runs (withSlots (start small [(0, 0x100)] 0) [(2, 1), (3, 2), (4, 3), (5, 4)]) 0xECA01B04
      (fun t => t.mem.readN 0x108 8 == 0x400000003 && t.reg 0 == 0x110) = true := by decide

/-- 49_vfp.md R414, R419: `FLDMDBD r0!, {d1}`: 8 bytes from 0xF8. -/
theorem test_step_fldmdbd_1 :
    runs (withMem (start small [(0, 0x100)] 0) [(8, 0xF8, 0x1122334455667788)]) 0xED301B02
      (fun t => t.sreg 2 == 0x55667788 && t.sreg 3 == 0x11223344 && t.reg 0 == 0xF8) = true := by decide

/-- 49_vfp.md R415, R419: `FSTMDBS r0!, {s1, s2}`: 8 bytes from 0xF8. -/
theorem test_step_fstmdbs_1 :
    runs (withSlots (start small [(0, 0x100)] 0) [(1, 7), (2, 9)]) 0xED600A02
      (fun t => t.mem.readN 0xF8 4 == 7 && t.mem.readN 0xFC 4 == 9 && t.reg 0 == 0xF8) = true := by decide

/-- 49_vfp.md R386: `FCMPED d0, d1` on 1.0 and 2.0 is less. -/
theorem test_step_fcmped_1 :
    runs (withSlots (start small [] 0) [(1, 0x3FF00000), (3, 0x40000000)]) 0xEEB40BC1 (fun t => nzcv t == 8) = true := by
  decide +kernel

/-- 49_vfp.md R388: `FCMPEZD d0` on -0.0 is equal. -/
theorem test_step_fcmpezd_1 :
    runs (withSlots (start small [] 0) [(1, 0x80000000)]) 0xEEB50BC0 (fun t => nzcv t == 6) = true := by
  decide +kernel

/-- 49_vfp.md R361: the word of coprocessor 4 at the unit ends with `NoCoprocessor`. -/
theorem test_step_no_coprocessor :
    stops (start small [] 0) 0xEE123456 (fun | .unimplemented .noCoprocessor _ => true | _ => false) = true := by
  decide

/-- 48_coprocessor_dispatch.md R331, R332, R334: the engine's names of FLDS, FSTS and FMRS do what those do. -/
theorem test_generic_forwards :
    (match exec (.ldc .al true true false false 0 1 10 1) (withMem (start small [(0, 0x100)] 0) [(4, 0x104, 0x2A)]) with
      | .next t => t.sreg 2 == 0x2A
      | _ => false) = true ∧
    (match exec (.stc .al true true false false 0 1 10 1) (withSlots (start small [(0, 0x100)] 0) [(2, 0x2B)]) with
      | .next t => t.mem.readN 0x104 4 == 0x2B
      | _ => false) = true ∧
    (match exec (.mrc .al 0 1 3 10 0 0) (withSlots (start small [] 0) [(2, 0x2C)]) with
      | .next t => t.reg 3 == 0x2C
      | _ => false) = true := by decide

/-- 47_system.md R320: SWI 0x123456 exits with what `SWI_MAP` gives, `x[15]` after it. -/
theorem test_step_swi :
    (match step ((start small [] 0).withFetchWord 32 0xEF123456) with
      | .next t => some (t.run, t.pc)
      | _ => none) = some (.exited (Config.swiMap 0x123456), 4) := rfl

/-! The routing of the operations `FPNUM` computes (49_vfp.md R371 to R379, R384, R389 to R394): the operands
reach it, and its result the destination, whatever it is. -/

/-- Singles 1.0, 2.0 and 3.0 in `s0`, `s2`, `s4`. -/
def singles : State := withSlots (start small [] 0) [(0, 0x3F800000), (2, 0x40000000), (4, 0x40400000)]

/-- Doubles 1.0, 2.0 and 3.0 in `d0`, `d1`, `d2`. -/
def doubles : State := withSlots (start small [] 0) [(1, 0x3FF00000), (3, 0x40000000), (5, 0x40080000)]

theorem test_step_fmacs : singleAfter singles 0xEE010A02 0 =
    some (Config.add32 0x3F800000 (Config.mul32 0x40000000 0x40400000)) := rfl
theorem test_step_fnmacs : singleAfter singles 0xEE010A42 0 =
    some (Config.add32 0x3F800000 (neg32 (Config.mul32 0x40000000 0x40400000))) := rfl
theorem test_step_fmscs : singleAfter singles 0xEE110A02 0 =
    some (Config.add32 0xBF800000 (Config.mul32 0x40000000 0x40400000)) := rfl
theorem test_step_fnmscs : singleAfter singles 0xEE110A42 0 =
    some (Config.add32 0xBF800000 (neg32 (Config.mul32 0x40000000 0x40400000))) := rfl
theorem test_step_fmuls : singleAfter singles 0xEE210A02 0 = some (Config.mul32 0x40000000 0x40400000) := rfl
theorem test_step_fnmuls : singleAfter singles 0xEE210A42 0 = some (neg32 (Config.mul32 0x40000000 0x40400000)) := rfl
theorem test_step_fadds : singleAfter singles 0xEE310A02 0 = some (Config.add32 0x40000000 0x40400000) := rfl
theorem test_step_fsubs : singleAfter singles 0xEE310A42 0 = some (Config.sub32 0x40000000 0x40400000) := rfl
theorem test_step_fdivs : singleAfter singles 0xEE810A02 0 = some (Config.div32 0x40000000 0x40400000) := rfl
theorem test_step_fsqrts : singleAfter singles 0xEEB10AC1 0 = some (Config.sqrt32 0x40000000) := rfl
theorem test_step_fuitos : singleAfter singles 0xEEB80A41 0 = some (Config.u32ToF32 0x40000000) := rfl
theorem test_step_fsitos : singleAfter singles 0xEEB80AC1 0 = some (Config.s32ToF32 0x40000000) := rfl
theorem test_step_ftouis : singleAfter singles 0xEEBC0A41 0 = some (Config.f32ToU32R 0x40000000) := rfl
theorem test_step_ftosis : singleAfter singles 0xEEBD0A41 0 = some (Config.f32ToS32R 0x40000000) := rfl
theorem test_step_fcvtsd : singleAfter doubles 0xEEB70BC1 0 = some (Config.f64ToF32 (doubles.dreg 1)) := rfl
theorem test_step_ftouid : singleAfter doubles 0xEEBC0B41 0 = some (Config.f64ToU32R (doubles.dreg 1)) := rfl
theorem test_step_ftosid : singleAfter doubles 0xEEBD0B41 0 = some (Config.f64ToS32R (doubles.dreg 1)) := rfl

/-- The low and the high word of double register 0 after the step of a word on `doubles`. -/
def doubleWordsAfter (w : Nat) : Option (Word × Word) :=
  match step (doubles.withFetchWord 32 w) with
  | .next t => some (t.sreg 0, t.sreg 1)
  | _ => none

/-- The two words of a double. -/
def wordsOf (d : Dword) : Option (Word × Word) := some (d.extractLsb' 0 32, d.extractLsb' 32 32)

theorem test_step_fmacd : doubleWordsAfter 0xEE010B02 =
    wordsOf (Config.add64 (doubles.dreg 0) (Config.mul64 (doubles.dreg 1) (doubles.dreg 2))) := rfl
theorem test_step_fnmacd : doubleWordsAfter 0xEE010B42 =
    wordsOf (Config.add64 (doubles.dreg 0) (neg64 (Config.mul64 (doubles.dreg 1) (doubles.dreg 2)))) := rfl
theorem test_step_fmscd : doubleWordsAfter 0xEE110B02 =
    wordsOf (Config.add64 (neg64 (doubles.dreg 0)) (Config.mul64 (doubles.dreg 1) (doubles.dreg 2))) := rfl
theorem test_step_fnmscd : doubleWordsAfter 0xEE110B42 =
    wordsOf (Config.add64 (neg64 (doubles.dreg 0)) (neg64 (Config.mul64 (doubles.dreg 1) (doubles.dreg 2)))) := rfl
theorem test_step_fmuld : doubleWordsAfter 0xEE210B02 = wordsOf (Config.mul64 (doubles.dreg 1) (doubles.dreg 2)) := rfl
theorem test_step_fnmuld : doubleWordsAfter 0xEE210B42 =
    wordsOf (neg64 (Config.mul64 (doubles.dreg 1) (doubles.dreg 2))) := rfl
theorem test_step_faddd : doubleWordsAfter 0xEE310B02 = wordsOf (Config.add64 (doubles.dreg 1) (doubles.dreg 2)) := rfl
theorem test_step_fsubd : doubleWordsAfter 0xEE310B42 = wordsOf (Config.sub64 (doubles.dreg 1) (doubles.dreg 2)) := rfl
theorem test_step_fdivd : doubleWordsAfter 0xEE810B02 = wordsOf (Config.div64 (doubles.dreg 1) (doubles.dreg 2)) := rfl
theorem test_step_fsqrtd : doubleWordsAfter 0xEEB10BC1 = wordsOf (Config.sqrt64 (doubles.dreg 1)) := rfl
theorem test_step_fcvtds : doubleWordsAfter 0xEEB70AE1 = wordsOf (Config.f32ToF64 (doubles.sreg 3)) := rfl
theorem test_step_fuitod : doubleWordsAfter 0xEEB80B61 = wordsOf (Config.u32ToF64 (doubles.sreg 3)) := rfl
theorem test_step_fsitod : doubleWordsAfter 0xEEB80BE1 = wordsOf (Config.s32ToF64 (doubles.sreg 3)) := rfl

/-! ## Witnesses: for every statement with hypotheses, a state and operands that meet all of them together,
clause by clause, at the ends of the ranges -/

/-- A state with 0x100 in `r1` and 0xFFFC, the last word of the image, in `r2`. -/
def here : State := withMem (start small [(1, 0x100), (2, 0xFFFC), (3, 0xFFFD)] 0) [(4, 0x100, 0xA5)]

/-- The state of a Protected machine whose guest may fetch at 0 and store at 0x100 to 0x107. -/
def guarded : State :=
  { here with
    setup := { small with variant := .prot }
    ranges := [⟨0, 4, .read⟩, ⟨0x100, 8, .readWrite⟩] }

theorem here_invariant : Invariant here := by unfold Invariant; decide
theorem guarded_invariant : Invariant guarded := by unfold Invariant; decide
theorem here_runs : VfpRuns .al here := ⟨by decide, rfl⟩

theorem witness_ClassificationIgnoresCondition :
    (0xE0110002 : Word).extractLsb' 0 28 = (0x00110002 : Word).extractLsb' 0 28 := by decide

theorem witness_DataProcessingRoundTrip :
    ∀ i ∈ ([.and .eq true 0 14 (.imm 15 255), .mov .al false 15 (.regReg 15 .ror 15), .unimplPsrTransfer .al 0x10F0000,
      .unimplFlagsWithPcDest .al 0x010F000, .unimplBadShiftEncoding .al 0x1A00291] : List Instr),
      i.wf = true ∧ isDataProcessing i = true := by decide

theorem witness_EngineRoundTrip :
    ∀ i ∈ ([.bx .al 14, .b .nv 0xFFFFFF, .unimplHalfwordSH00 .al 0x1200090, .ldc .al true true true true 15 15 15 255,
      .cdp .al 15 15 15 9 7 15] : List Instr),
      i.wf = true ∧ i.level = .engine ∧ isDataProcessing i = false ∧
        ¬(i.isGeneric = true ∧ isVfpWord (encode i) = true) := by decide

theorem witness_VfpRoundTrip :
    ∀ i ∈ ([.fadds .al 31 31 31, .fmrx .al 0 15, .fldmiad .al true 15 15 127, .unimplVfpOpcode .al 0xE800A40] : List Instr),
      i.wf = true ∧ i.level = .vfp ∧ isNoCoprocessor i = false := by decide

theorem witness_VfpRoundTrip_no_coprocessor :
    (Instr.unimplNoCoprocessor .al 0xE123456).wf = true ∧ (Instr.unimplNoCoprocessor .al 0xE123456).level = .vfp := by
  decide

theorem witness_StepRunsTheDecoded :
    let s := ((start small [(15, 0xFFFC)] 0).withFetchWord 32 0xE12FFF1E)
    Allowed s s.pc 4 .read ∧
      decode [s.mem.read s.pc.toNat, s.mem.read (s.pc.toNat + 1), s.mem.read (s.pc.toNat + 2),
        s.mem.read (s.pc.toNat + 3)] = .ok (.bx .al 14, []) := ⟨by decide, rfl⟩

theorem witness_FetchFaultKeepsEverything :
    checkAccess (start small [(15, 0xFFFD)] 0) (start small [(15, 0xFFFD)] 0).pc 4 .read =
      some (.outOfRange 0xFFFD 4) := by decide

theorem witness_PlacedWordRuns :
    Invariant (start small [(15, 0xFFFC)] 0) ∧ (start small [(15, 0xFFFC)] 0).pc.toNat + 4 ≤ 0x10000 ∧
      decodeTableWord 32 0xE12FFF1E = some (.bx .al 14) := by unfold Invariant; decide

theorem witness_FailedConditionIsNoOp :
    isUndefined (.mov .eq false 0 (.imm 0 1)) = false ∧ condTest .eq here = .fails := by decide

theorem witness_ReservedCondition :
    (Instr.mov .nv false 0 (.imm 0 1)).cond = .nv ∧ here.setup.cond1111 = .fault ∧
      isUndefined (.mov .nv false 0 (.imm 0 1)) = false ∧
      (start { small with cond1111 := .never } [] 0).setup.cond1111 = .never := by decide

theorem witness_UndefinedFormatFaults :
    let s := (start small [] 0).withFetchWord 32 0xE7F000F0
    Allowed s s.pc 4 .read ∧ s.mem.readN s.pc.toNat 4 = (0xE7F000F0 : Word).toNat ∧
      (0xE7F000F0 : Word).extractLsb' 25 3 = 0b011 ∧ (0xE7F000F0 : Word).getLsbD 4 = true := by decide

theorem witness_LittleEndianMemory : Memory.wf [(5, 1), (9, 0xFF)] := by decide

/-- The accesses at the ends of the range, one byte beyond each, and the state without a range. -/
theorem witness_ProtectedAuthorisation :
    guarded.setup.variant = .prot ∧
      (⟨0x100, 8, .readWrite⟩ : AccessRange) ∈ guarded.ranges ∧ (0x104 : Word).toNat + 4 ≤ 0x100 + 8 ∧
      (0x104 : Word).toNat + 4 ≤ guarded.setup.memSize ∧ authorized guarded.ranges 0x105 4 .write = false ∧
      authorized guarded.ranges 0xFF 4 .read = false ∧ { guarded with ranges := [] }.ranges = [] := by decide

theorem witness_OutOfImage :
    here.setup.variant = .raw ∧ here.setup.memSize < (0xFFFD : Word).toNat + 4 ∧
      (0xFFFC : Word).toNat + 4 ≤ here.setup.memSize ∧
      ({ guarded with ranges := [⟨0xFFFD, 4, .readWrite⟩] } : State).setup.variant = .prot ∧
      authorized [⟨0xFFFD, 4, .readWrite⟩] 0xFFFD 4 .read = true ∧
      authorized [⟨0xFFFD, 4, .readWrite⟩] 0xFFFD 4 .write = true ∧
      guarded.setup.memSize < (0xFFFD : Word).toNat + 4 := by decide

/-- `MOV r0, #1`, placed. -/
def placed : State := here.withFetchWord 32 0xE3A00001

theorem witness_StepKeepsInvariant : Invariant placed ∧ ∃ t, step placed = .next t := by
  refine ⟨?_, ⟨_, rfl⟩⟩; unfold Invariant; decide

theorem witness_FaultKeepsInvariant :
    Invariant (here.withFetchWord 32 0xE7F000F0) ∧ ∃ f, step (here.withFetchWord 32 0xE7F000F0) = .fault f := by
  refine ⟨?_, ⟨_, rfl⟩⟩; unfold Invariant; decide

theorem witness_StepNeverRefuses :
    here.run = .running ∧ ∃ t k, exec (.swi .al 7) here = .next t ∧ t.run = .exited k := ⟨rfl, _, _, rfl, rfl⟩

theorem witness_NoInstructionWritesControl : ∃ t, step placed = .next t := ⟨_, rfl⟩

theorem witness_WritersOfTheFlags :
    (∃ t, exec (.mov .al false 0 (.imm 0 1)) here = .next t) ∧
      flagWriter (asExecuted (.mov .al false 0 (.imm 0 1))) = false ∧
      isCompare (asExecuted (.mov .al false 0 (.imm 0 1))) = false ∧
      (∃ t, exec (.mul .al true 0 1 2) here = .next t) ∧ isMultiply (.mul .al true 0 1 2) = true :=
  ⟨⟨_, rfl⟩, by decide, by decide, ⟨_, rfl⟩, by decide⟩

/-- The bytes beside the writable range, a store that completes and one that is turned away. -/
theorem witness_ProtectedBytesUnchanged :
    Invariant guarded ∧ guarded.setup.variant = .prot ∧ ¬Writable guarded 0xFF ∧ ¬Writable guarded 0x108 ∧
      (∃ t, step (guarded.withFetchWord 32 0xE5810004) = .next t) ∧
      (∃ f, step (guarded.withFetchWord 32 0xE5810005) = .fault f) := by
  refine ⟨guarded_invariant, rfl, ?_, ?_, ⟨_, rfl⟩, ⟨_, rfl⟩⟩ <;> unfold Writable <;> decide

theorem witness_RegisterFifteenReads : here.setup.off = offsets := rfl

theorem witness_LogicalResults : Passes .al here ∧ ¬(true = true ∧ (14 : Reg) = 15) := by decide
theorem witness_AdditiveResults : Passes .al here ∧ ¬(false = true ∧ (15 : Reg) = 15) := by decide
theorem witness_SubtractiveResults : Passes .al here ∧ ¬(true = true ∧ (0 : Reg) = 15) := by decide
theorem witness_CompareResults : Passes .ne here := by decide
theorem witness_DataProcessingFaults : Passes .cc here := by decide
theorem witness_MultiplyResults : Passes .pl here := by decide
theorem witness_LongMultiplyResults : Passes .vc here := by decide

/-- The last byte, halfword and word of the image, from a base in a register. -/
theorem witness_LoadResults :
    Passes .al here ∧ Allowed here (sdtAddress here ⟨true, true, false⟩ 2 (.imm 0)).addr 4 .read ∧
      Allowed here (sdtAddress here ⟨true, true, false⟩ 2 (.imm 3)).addr 1 .read ∧
      Allowed here (hdtAddress here ⟨true, true, false⟩ 2 (.imm 2)).addr 2 .read ∧
      Allowed here (hdtAddress here ⟨true, true, false⟩ 2 (.imm 3)).addr 1 .read := by decide

/-- The offset forms at the ends of their ranges (30_encoding.md R101, R102; 41_shifter.md R154 to R158). -/
theorem test_transfer_offsets :
    let s := start small [(1, 0x80000001)] 0b0010
    sdtOffset s (.imm 0xFFF) = 0xFFF ∧ hdtOffset s (.imm 0xFF) = 0xFF ∧ hdtOffset s (.reg 1) = 0x80000001 ∧
      sdtOffset s (.reg 1 .lsl 31) = 0x80000000 ∧ sdtOffset s (.reg 1 .lsr 31) = 1 ∧
      sdtOffset s (.reg 1 .asr 31) = 0xFFFFFFFF ∧ sdtOffset s (.reg 1 .ror 1) = 0xC0000000 ∧
      sdtOffset s (.reg 1 .lsl 0) = 0x80000001 ∧ sdtOffset s (.reg 1 .asr 0) = 0xC0000000 ∧
      sdtOffset s (.reg 1 .ror 0) = 0xC0000000 := by decide

theorem witness_StoreResults :
    Passes .al here ∧ Invariant here ∧ Allowed here (sdtAddress here ⟨true, true, false⟩ 2 (.imm 0)).addr 4 .write ∧
      Allowed here (sdtAddress here ⟨true, true, false⟩ 2 (.imm 3)).addr 1 .write ∧
      Allowed here (hdtAddress here ⟨true, true, false⟩ 2 (.imm 2)).addr 2 .write :=
  ⟨by decide, here_invariant, by decide, by decide, by decide⟩

/-- One byte beyond each of those. -/
theorem witness_SingleTransferFaults :
    Passes .al here ∧
      (∀ k : AccessKind, checkAccess here (sdtAddress here ⟨true, true, false⟩ 2 (.imm 1)).addr 4 k =
        some (.outOfRange 0xFFFD 4)) ∧
      (∀ k : AccessKind, checkAccess here (sdtAddress here ⟨true, true, false⟩ 2 (.imm 4)).addr 1 k =
        some (.outOfRange 0x10000 1)) ∧
      (∀ k : AccessKind, checkAccess here (hdtAddress here ⟨true, true, false⟩ 2 (.imm 3)).addr 2 k =
        some (.outOfRange 0xFFFF 2)) ∧
      (∀ k : AccessKind, checkAccess here (hdtAddress here ⟨true, true, false⟩ 2 (.imm 4)).addr 1 k =
        some (.outOfRange 0x10000 1)) := by
  refine ⟨by decide, ?_, ?_, ?_, ?_⟩ <;> intro k <;> cases k <;> decide

/-- A state of a Protected machine with `r1` at 0x100, which may be read and not written. -/
def readOnly : State := { guarded with ranges := [⟨0x100, 4, .read⟩] }

theorem witness_SwapResults :
    Passes .al here ∧ Invariant here ∧ Allowed here (here.rd 2 here.setup.off.swp) 4 .read ∧
      Allowed here (here.rd 2 here.setup.off.swp) 4 .write ∧ Allowed here (here.rd 3 here.setup.off.swp) 1 .write ∧
      checkAccess here (here.rd 3 here.setup.off.swp) 4 .read = some (.outOfRange 0xFFFD 4) :=
  ⟨by decide, here_invariant, by decide, by decide, by decide, by decide⟩

theorem witness_SwapResults_read_only :
    Passes .al readOnly ∧ Invariant readOnly ∧ Allowed readOnly (readOnly.rd 1 readOnly.setup.off.swp) 4 .read ∧
      checkAccess readOnly (readOnly.rd 1 readOnly.setup.off.swp) 4 .write = some (.segFault 0x100 4 .write) := by
  unfold Invariant; decide

/-- An empty list, register 15 alone, all sixteen registers. -/
theorem test_block_slots_allowed (k : AccessKind) (r : Reg) :
    (r = 15 → Allowed here (blockSlot false true 1 0x8000 here r) 4 k) ∧
      Allowed here (blockSlot false true 1 0xFFFF here r) 4 k := by
  cases k <;> revert r <;> decide +kernel

theorem witness_LoadMultipleResults :
    Passes .al here ∧
      (∀ r : Reg, (0 : BitVec 16).getLsbD r.toNat = true → Allowed here (blockSlot false true 1 0 here r) 4 .read) ∧
      ∀ r : Reg, (0xFFFF : BitVec 16).getLsbD r.toNat = true →
        Allowed here (blockSlot false true 1 0xFFFF here r) 4 .read :=
  ⟨by decide, by decide, fun r _ => (test_block_slots_allowed .read r).2⟩

theorem witness_StoreMultipleResults :
    Passes .al here ∧ Invariant here ∧
      (∀ r : Reg, (0x8000 : BitVec 16).getLsbD r.toNat = true →
        Allowed here (blockSlot false true 1 0x8000 here r) 4 .write) ∧
      ∀ r : Reg, (0xFFFF : BitVec 16).getLsbD r.toNat = true →
        Allowed here (blockSlot false true 1 0xFFFF here r) 4 .write :=
  ⟨by decide, here_invariant, fun r hr => (test_block_slots_allowed .write r).1 (by revert hr; revert r; decide),
    fun r _ => (test_block_slots_allowed .write r).2⟩

/-- The second of two registers lies beyond the image. -/
theorem witness_BlockTransferStops :
    Passes .al here ∧ Invariant here ∧ ∀ k : AccessKind,
      checkAccess here (blockSlot false true 2 3 here 1) 4 k = some (.outOfRange 0x10000 4) ∧
      ∀ r : Reg, (3 : BitVec 16).getLsbD r.toNat = true → transfersBefore true r 1 = true →
        Allowed here (blockSlot false true 2 3 here r) 4 k := by
  refine ⟨by decide, here_invariant, fun k => ?_⟩; cases k <;> decide

theorem witness_BlockTransferPairing :
    Passes .al here ∧ Invariant here ∧ (0x4001 : BitVec 16).getLsbD (1 : Reg).toNat = false ∧
      (0x4001 : BitVec 16).getLsbD 15 = false ∧ here.setup.variant = .raw ∧
      ∃ t, exec (.stmia .al true 1 0x4001) here = .next t ∧ Passes .al t :=
  ⟨by decide, here_invariant, by decide, by decide, rfl, ⟨_, rfl, by decide⟩⟩

/-- In the Protected variant, two words that one range lets the guest write and read. -/
theorem witness_BlockTransferPairing_protected :
    Passes .al guarded ∧ guarded.setup.variant = .prot ∧
      (∀ r : Reg, (0x4001 : BitVec 16).getLsbD r.toNat = true →
        Allowed guarded (blockSlot false true 1 0x4001 guarded r) 4 .read) ∧
      ∃ t, exec (.stmia .al true 1 0x4001) guarded = .next t ∧ Passes .al t :=
  ⟨by decide, rfl, by decide +kernel, ⟨_, rfl, by decide⟩⟩

theorem witness_BranchResults : Passes .al here := by decide
theorem witness_SwiExitsAndResumes : Passes .al here := by decide
theorem witness_RegisterAliasing : (0 : DReg) ≠ 15 := by decide

theorem witness_VfpArithmetic : VfpRuns .al here := here_runs
theorem witness_VfpSignOperations : VfpRuns .ne here := ⟨by decide, rfl⟩
theorem witness_VfpConversions : VfpRuns .pl here := ⟨by decide, rfl⟩
theorem witness_VfpCompares : VfpRuns .cc here := ⟨by decide, rfl⟩
theorem witness_VfpRegisterMoves : VfpRuns .vc here := ⟨by decide, rfl⟩

/-- 1.0 and -0.0 are numbers, +infinity is special and no NaN. -/
theorem witness_CompareClassIsOrder :
    isSpecial fpSingle 0x3F800000 = false ∧ isSpecial fpSingle 0x80000000 = false ∧
      isSpecial fpSingle 0x7F800000 = true ∧ fpIsNan fpSingle 0x7F800000 = false := by decide

/-- The zeros: 0.0, and -0.5, which rounds to 0. -/
theorem witness_TruncatingConversions :
    isSpecial fpSingle (0 : Word).toNat = false ∧ 0 ≤ trunc (ratValue fpSingle (0 : Word).toNat) ∧
      trunc (ratValue fpSingle (0 : Word).toNat) ≤ 2 ^ 32 - 1 ∧ -2 ^ 31 ≤ trunc (ratValue fpSingle (0 : Word).toNat) ∧
      isSpecial fpDouble (0 : Dword).toNat = false := by
  have h : ratValue fpSingle (0 : Word).toNat = 0 := by
    simp [ratValue, fpExponent, fpFraction, fpSign, fpSingle]
  have ht : trunc (ratValue fpSingle (0 : Word).toNat) = 0 := by rw [h]; simp [trunc]
  rw [ht]
  exact ⟨by decide, by decide, by decide, by decide, by decide⟩

theorem witness_VfpTwoRegisterMoves : VfpRuns .al here ∧ (30 : SReg).toNat < 31 ∧ (31 : SReg).toNat = 31 :=
  ⟨here_runs, by decide, by decide⟩

theorem witness_VfpLoadsAndStores :
    VfpRuns .al here ∧ Invariant here ∧ Allowed here (here.rd 2 here.setup.off.cop) 4 .read ∧
      Allowed here (here.rd 2 here.setup.off.cop - 4) 8 .write ∧
      checkAccess here (here.rd 2 here.setup.off.cop) 8 .write = some (.outOfRange 0xFFFC 8) ∧
      checkAccess here (here.rd 3 here.setup.off.cop) 4 .read = some (.outOfRange 0xFFFD 4) :=
  ⟨here_runs, here_invariant, by decide, by decide, by decide, by decide⟩

/-- One register at the top of the file, and the whole file. -/
theorem witness_VfpMultipleTransfers :
    VfpRuns .al here ∧ Invariant here ∧ hasMode here .ia = true ∧ hasMode here .iaw = true ∧
      hasMode here .dbw = true ∧
      ((1 : BitVec 8) ≠ 0 ∧ (31 : SReg).toNat + (1 : BitVec 8).toNat ≤ 32) ∧
      ((32 : BitVec 8) ≠ 0 ∧ (0 : SReg).toNat + (32 : BitVec 8).toNat ≤ 32) ∧
      ((1 : BitVec 7) ≠ 0 ∧ (15 : DReg).toNat + (1 : BitVec 7).toNat ≤ 16) ∧
      ((16 : BitVec 7) ≠ 0 ∧ (0 : DReg).toNat + (16 : BitVec 7).toNat ≤ 16) ∧
      (∀ k < 1, Allowed here (multipleSlot .iaw 2 1 4 k here) 4 .read) ∧
      (∀ k < 16, Allowed here (multipleSlot .dbw 2 32 8 k here) 8 .write) :=
  ⟨here_runs, here_invariant, rfl, rfl, rfl, by decide, by decide, by decide, by decide, by decide, by decide⟩

/-- The second of two registers lies beyond the image, and the first of one. -/
theorem witness_VfpMultipleTransfers_stops :
    checkAccess here (multipleSlot .ia 2 2 4 1 here) 4 .read = some (.outOfRange 0x10000 4) ∧
      (∀ k < 1, Allowed here (multipleSlot .ia 2 2 4 k here) 4 .read) ∧
      (∀ k < 1, Allowed here (multipleSlot .ia 2 2 4 k here) 4 .write) ∧
      checkAccess here (multipleSlot .iaw 2 2 8 0 here) 8 .write = some (.outOfRange 0xFFFC 8) := by decide

/-- A part-way FLDM: `s1` is loaded, `s2` and the base are not written (49_vfp.md R419). -/
theorem test_fldm_part_way :
    (match exec (.fldmias .al true 2 1 2) (withMem (start small [(2, 0xFFFC)] 0) [(4, 0xFFFC, 0xA5)]) with
      | .fault (.memory f t) => f == .outOfRange 0x10000 4 && t.sreg 1 == 0xA5 && t.sreg 2 == 0 && t.reg 2 == 0xFFFC
      | _ => false) = true := by decide

/-- A list one longer than the file, an empty list, and a word of each kind of fault row. -/
theorem witness_VfpFaults :
    VfpRuns .al here ∧ (1 : BitVec 4) ≠ 0 ∧ (hasMode here .ia = true ∧ hasMode here .iaw = true ∧
        hasMode here .dbw = true) ∧
      32 < (31 : SReg).toNat + (2 : BitVec 8).toNat ∧ 16 < (15 : DReg).toNat + (2 : BitVec 7).toNat ∧
      (∀ m, Body.isCdt 0xC900A00 = true → Body.mode 0xC900A00 = some m → hasMode here m = true) := by
  refine ⟨here_runs, by decide, by decide, by decide, by decide, fun m => ?_⟩
  cases m <;> decide

theorem witness_VfpFaults_modes :
    let s := start { small with dtModes := ⟨false, false, false⟩ } [] 0
    VfpRuns .al s ∧ hasMode s .iaw = false ∧ hasMode s .ia = false ∧ hasMode s .dbw = false ∧
      Body.isCdt 0xC900A00 = true ∧ Body.mode 0xC900A00 = some .ia := by
  refine ⟨⟨by decide, rfl⟩, ?_⟩; decide

theorem witness_GenericCoprocessor :
    (Instr.cdp .al 3 0 0 10 0 0).isGeneric = true ∧ VfpRuns (Instr.cdp .al 3 0 0 10 0 0).cond here ∧ Invariant here ∧
      Allowed here (here.rd 2 here.setup.off.cop) 4 .read ∧
      Allowed here (here.rd 2 here.setup.off.cop) 4 .write :=
  ⟨by decide, here_runs, here_invariant, by decide, by decide⟩

theorem witness_NoCoprocessorFaults :
    (Instr.fadds .al 0 0 0).level = .vfp ∧ Passes .al (start { small with coproc := .absent } [] 0) ∧
      (start { small with coproc := .absent } [] 0).setup.coproc = .absent ∧ Passes .al here ∧
      (Instr.ldc .al true true true true 0 0 9 0).isGeneric = true ∧
      isVfpWord (encode (.ldc .al true true true true 0 0 9 0)) = false ∧
      isVfpWord (encode (.ldc .al true true true true 0 0 12 0)) = false := by decide

/-- A step that completes, one that exits, and one that faults; a call whose budget is spent. -/
theorem witness_RunContract :
    (∃ t, step placed = .next t ∧ t.run = .running ∧ runFor 1 placed = .exhausted t) ∧
      (∃ i t, step (here.withFetchWord 32 0xEF000000) = .next t ∧ t.run = .exited i) ∧
      (∃ f, step (here.withFetchWord 32 0xE7F000F0) = .fault f) ∧
      (∃ t, (1 : Word) ≠ 0 ∧ runFor (1 : Word).toNat placed.resume = .exhausted t) ∧
      Returns 1 placed (.interrupt .resume) :=
  ⟨⟨_, rfl, rfl, rfl⟩, ⟨_, _, rfl, rfl⟩, ⟨_, rfl⟩, ⟨_, by decide, rfl⟩, ⟨_, rfl, rfl⟩⟩

end Sys2Proof.Tests
end

section
/-!
PROOFS. What no step does (00_scope.md R8, R11): it is never refused, it leaves an Exit by an SWI alone, and it
writes none of the control state.
-/

namespace Sys2Proof.Proofs

open Sys2Proof.Machine Sys2Proof.Safety

/-! ## Outcomes -/

/-- The outcomes of 60_exceptions.md R430, told apart. -/
theorem ends_outcome {P : State → Prop} {r : Result} (h : Ends P r) :
    (∃ t, r = .next t) ∨ (∃ t, r = .fault (.undefined t)) ∨ (∃ why t, r = .fault (.unimplemented why t)) ∨
      (∃ f t, r = .fault (.memory f t)) := by
  match r with
  | .next t => exact .inl ⟨t, rfl⟩
  | .fault (.undefined t) => exact .inr (.inl ⟨t, rfl⟩)
  | .fault (.unimplemented why t) => exact .inr (.inr (.inl ⟨why, t, rfl⟩))
  | .fault (.memory f t) => exact .inr (.inr (.inr ⟨f, t, rfl⟩))
  | .refused _ => exact h.elim

/-- No write an instruction makes touches the run state. -/
theorem kept_run (Q : RunState → Prop) : Kept fun t => Q t.run where
  setReg _ _ _ h := h
  setSReg _ _ _ h := h
  setFlags _ _ _ _ _ h := h
  compare s k h := by rwa [State.compare_run]
  memWrite _ _ _ _ h _ := h

/-- The run states instruction `i` can leave a running machine in (10_state.md R35, 47_system.md R320). -/
def RunAfter (i : Instr) (r : RunState) : Prop :=
  r = .running ∨ ∃ c comment, i = .swi c comment ∧ r = .exited (Config.swiMap comment)

theorem exec_runAfter (i : Instr) {s : State} (h : s.run = .running) : Ends (fun t => RunAfter i t.run) (exec i s) :=
  exec_ends (kept_run (RunAfter i)) i (fun c comment hi _ _ => .inr ⟨c, comment, hi, rfl⟩) (.inl h)

/-- Settles O21: no outcome of a step is a refusal, and an SWI alone writes the run state. -/
theorem stepNeverRefuses : Obligations.StepNeverRefuses := by
  refine ⟨fun s => ends_outcome (step_ends (kept_run fun _ => True) (fun _ _ _ => trivial) trivial), ?_⟩
  intro i s t k hs hexec hk
  have ht : Ends (fun t => RunAfter i t.run) (.next t) := hexec ▸ exec_runAfter i hs
  rcases ht with hrun | ⟨c, comment, hi, hrun⟩
  · rw [hk] at hrun; cases hrun
  · rw [hk] at hrun
    exact ⟨c, comment, hi, RunState.exited.inj hrun⟩

/-! ## Control state -/

/-- What no instruction writes is in `t` as it was in `s`. -/
def ControlKept (s t : State) : Prop :=
  t.setup = s.setup ∧ t.ranges = s.ranges ∧ t.spsr = s.spsr ∧ t.fpexc = s.fpexc ∧ SameReserved s t

theorem ControlKept.refl (s : State) : ControlKept s s := ⟨rfl, rfl, rfl, rfl, rfl, rfl⟩

/-- The flag writers are the one kind of write that comes near: they replace bits 31:28 of a status register
and keep its bits 27:0. -/
theorem kept_control (s : State) : Kept (ControlKept s) where
  setReg _ _ _ h := h
  setSReg _ _ _ h := h
  setFlags u n z c v := by
    rintro ⟨hsetup, hranges, hspsr, hfpexc, hcpsr, hfpscr⟩
    exact ⟨hsetup, hranges, hspsr, hfpexc, (u.setFlags_low n z c v).trans hcpsr, hfpscr⟩
  compare u k := by
    rintro ⟨hsetup, hranges, hspsr, hfpexc, hcpsr, hfpscr⟩
    obtain ⟨hlowC, hlowF⟩ := u.compare_low k
    exact ⟨(u.compare_setup k).trans hsetup, (u.compare_ranges k).trans hranges, (u.compare_spsr k).trans hspsr,
      (u.compare_fpexc k).trans hfpexc, hlowC.trans hcpsr, hlowF.trans hfpscr⟩
  memWrite _ _ _ _ h _ := h

theorem step_controlKept (s : State) : Ends (ControlKept s) (step s) :=
  step_ends (kept_control s) (fun _ _ h => h) (ControlKept.refl s)

/-- Settles O22, from what every write of a step keeps. -/
theorem noInstructionWritesControl : Obligations.NoInstructionWritesControl := by
  intro s t h
  exact (h ▸ step_controlKept s : Ends (ControlKept s) (.next t))

end Sys2Proof.Proofs
end

section
/-!
PROOFS. The invariant of the machine (10_state.md R26, R29; 20_memory.md R50, R58): it holds after reset, and
every step keeps it.
-/

namespace Sys2Proof.Proofs

open Sys2Proof.Machine Sys2Proof.Safety

/-- A write the port lets through keeps the image canonical, and its bytes lie inside the image. -/
theorem invariant_memWrite {s : State} {a : Word} {n v : Nat} (hs : Invariant s)
    (hc : checkAccess s a n .write = none) : Invariant { s with mem := s.mem.writeN a.toNat n v } := by
  obtain ⟨hwf, hin, hstatus⟩ := hs
  refine ⟨Memory.writeN_wf _ _ _ hwf, fun c hmem => ?_, hstatus⟩
  have hle : a.toNat + n ≤ s.setup.memSize := checkAccess_none_le hc
  rcases Memory.mem_writeN hmem with hold | ⟨_, hlt⟩
  · exact hin c hold
  · exact Nat.lt_of_lt_of_le hlt hle

/-- Registers are no part of the invariant, a flag write keeps the reserved bits of CPSR, and a write to memory
has passed the port. -/
theorem kept_invariant : Kept Invariant where
  setReg _ _ _ h := h
  setSReg _ _ _ h := h
  setFlags u n z c v := by
    rintro ⟨hwf, hin, hcpsr, hspsr⟩
    exact ⟨hwf, hin, (u.setFlags_low n z c v).trans hcpsr, hspsr⟩
  compare u k := by
    rintro ⟨hwf, hin, hcpsr, hspsr⟩
    obtain ⟨hlow, -⟩ := u.compare_low k
    rw [Invariant, u.compare_mem, u.compare_setup, u.compare_spsr]
    exact ⟨hwf, hin, hlow.trans hcpsr, hspsr⟩
  memWrite _ _ _ _ := invariant_memWrite

/-- Every step keeps the invariant, whether it completes or faults. -/
theorem step_invariant {s : State} (hs : Invariant s) : Ends Invariant (step s) :=
  step_ends kept_invariant (fun _ _ h => h) hs

/-- Settles O19: the state a completing step leaves is the one `step_invariant` speaks of. -/
theorem stepKeepsInvariant : Obligations.StepKeepsInvariant := by
  intro s t hs h
  exact (h ▸ step_invariant hs : Ends Invariant (.next t))

theorem init_invariant (p : Setup) (bank : Vector Word 32) (fpscr fpexc : Word) :
    Invariant (State.init p bank fpscr fpexc) :=
  ⟨Memory.wf_nil, fun _ h => absurd h List.not_mem_nil, rfl, rfl⟩

/-- Settles O17: nothing is listed in a fresh image, and the status registers are 0. -/
theorem resetMeetsInvariant : Obligations.ResetMeetsInvariant :=
  ⟨init_invariant, init_invariant _ _ _ _⟩

end Sys2Proof.Proofs
end

section
/-!
PROOFS. Who writes the flags (10_state.md R27, R32): what each shared operation can do to CPSR and FPSCR.
-/

namespace Sys2Proof.Proofs

open Sys2Proof.Machine Sys2Proof.Safety

/-- What an instruction does to the status registers: CPSR is as before unless it `writesCpsr`, FPSCR unless it
`writesFpscr`. -/
def StatusFrame (writesCpsr writesFpscr : Bool) (s t : State) : Prop :=
  (writesCpsr = false → t.cpsr = s.cpsr) ∧ (writesFpscr = false → t.fpscr = s.fpscr)

section Frame

variable {wCpsr wFpscr : Bool} {s u : State}

theorem StatusFrame.of_eq (hcpsr : u.cpsr = s.cpsr) (hfpscr : u.fpscr = s.fpscr) : StatusFrame wCpsr wFpscr s u :=
  ⟨fun _ => hcpsr, fun _ => hfpscr⟩

theorem StatusFrame.refl (wCpsr wFpscr : Bool) (s : State) : StatusFrame wCpsr wFpscr s s := .of_eq rfl rfl

theorem StatusFrame.writeBack (a : Address) (rn : Reg) (hu : StatusFrame wCpsr wFpscr s u) :
    StatusFrame wCpsr wFpscr s (u.writeBack a rn) := by
  simpa only [StatusFrame, State.writeBack_cpsr, State.writeBack_fpscr] using hu

/-! ## Writes of registers and memory leave both alone -/

theorem storing_statusFrame {a : Word} {n v : Nat} {k : State → Result} (hu : StatusFrame wCpsr wFpscr s u)
    (hk : ∀ t, StatusFrame wCpsr wFpscr s t → Ends (StatusFrame wCpsr wFpscr s) (k t)) :
    Ends (StatusFrame wCpsr wFpscr s) (storing u a n v k) := by
  cases hc : checkAccess u a n .write with
  | none => rw [storing_allowed _ _ hc]; exact hk _ hu
  | some f => rw [storing_denied _ _ hc]; exact hu

theorem memWrite_statusFrame {a : Word} {n v : Nat} {t : State} (hu : StatusFrame wCpsr wFpscr s u)
    (h : memWrite u a n v = .ok t) : StatusFrame wCpsr wFpscr s t := by
  obtain ⟨-, rfl⟩ := memWrite_ok_iff.mp h
  exact hu

theorem loadReg_statusFrame {a : Address} {n : Nat} {rn rd : Reg} {value : Nat → Word}
    (hu : StatusFrame wCpsr wFpscr s u) : Ends (StatusFrame wCpsr wFpscr s) (loadReg a n rn rd value u) :=
  loading_ends hu fun _ => hu.writeBack a rn

theorem storeReg_statusFrame {a : Address} {n : Nat} {rn : Reg} {v : Word} (hu : StatusFrame wCpsr wFpscr s u) :
    Ends (StatusFrame wCpsr wFpscr s) (storeReg a n rn v u) :=
  storing_statusFrame hu fun _ ht => ht.writeBack a rn

theorem swap_statusFrame {n : Nat} {rn rd rm : Reg} (hu : StatusFrame wCpsr wFpscr s u) :
    Ends (StatusFrame wCpsr wFpscr s) (swap n rn rd rm u) :=
  loading_ends hu fun _ => storing_statusFrame hu fun _ ht => ht

theorem blockTransfer_statusFrame {before up wb : Bool} {transfer : Reg → Word → State → Except MemFault State}
    {rn : Reg} {list : BitVec 16}
    (ht : ∀ r a u u', StatusFrame wCpsr wFpscr s u → transfer r a u = .ok u' → StatusFrame wCpsr wFpscr s u')
    (hu : StatusFrame wCpsr wFpscr s u) :
    Ends (StatusFrame wCpsr wFpscr s) (blockTransfer before up transfer wb rn list u) := by
  refine blockLoop_ends ht (fun a t ht => ?_) _ _ _ hu
  cases wb <;> exact ht

theorem ldmTransfer_statusFrame (r : Reg) (a : Word) (u u' : State) (hu : StatusFrame wCpsr wFpscr s u)
    (h : ldmTransfer r a u = .ok u') : StatusFrame wCpsr wFpscr s u' := by
  unfold ldmTransfer at h; split at h <;> cases h
  exact hu

theorem stmTransfer_statusFrame (r : Reg) (a : Word) (u u' : State) (hu : StatusFrame wCpsr wFpscr s u)
    (h : stmTransfer r a u = .ok u') : StatusFrame wCpsr wFpscr s u' := memWrite_statusFrame hu h

theorem vfpMultiple_statusFrame {m : DtMode} {rn : Reg} {words : BitVec 8} {file first count size : Nat}
    {transfer : Nat → Word → State → Except MemFault State}
    (ht : ∀ i a u u', StatusFrame wCpsr wFpscr s u → transfer i a u = .ok u' → StatusFrame wCpsr wFpscr s u')
    (hu : StatusFrame wCpsr wFpscr s u) :
    Ends (StatusFrame wCpsr wFpscr s) (vfpMultiple m rn words file first count size transfer u) := by
  refine inMode_ends hu ?_
  split
  · exact hu
  · refine multipleLoop_ends ht (fun t ht => ?_) _ _ _ _ hu
    cases m <;> exact ht

theorem loadSingle_statusFrame {f : SReg} (i : Nat) (a : Word) (u u' : State) (hu : StatusFrame wCpsr wFpscr s u)
    (h : loadSingle f i a u = .ok u') : StatusFrame wCpsr wFpscr s u' := by
  unfold loadSingle at h; split at h <;> cases h
  exact hu

theorem loadDouble_statusFrame {f : DReg} (i : Nat) (a : Word) (u u' : State) (hu : StatusFrame wCpsr wFpscr s u)
    (h : loadDouble f i a u = .ok u') : StatusFrame wCpsr wFpscr s u' := by
  unfold loadDouble at h; split at h <;> cases h
  exact hu

theorem storeSingle_statusFrame {f : SReg} (i : Nat) (a : Word) (u u' : State) (hu : StatusFrame wCpsr wFpscr s u)
    (h : storeSingle f i a u = .ok u') : StatusFrame wCpsr wFpscr s u' := memWrite_statusFrame hu h

theorem storeDouble_statusFrame {f : DReg} (i : Nat) (a : Word) (u u' : State) (hu : StatusFrame wCpsr wFpscr s u)
    (h : storeDouble f i a u = .ok u') : StatusFrame wCpsr wFpscr s u' := memWrite_statusFrame hu h

end Frame

/-! ## The engine's writers of CPSR -/

section Writers

variable {wFpscr : Bool} {s : State}

/-- Data processing with a destination writes the flags with `S = 1` only (42_data_processing.md R180). -/
theorem dpWrite_statusFrame {c : Cond} {sf : Bool} {rd : Reg} {o : Operand2} {alu : Shifted → AluOut} :
    Ends (StatusFrame sf wFpscr s) (dpWrite c sf rd o alu s) := by
  refine whenCond_ends (.refl ..) ?_
  dsimp only; split
  · exact .refl ..
  · cases sf
    · exact .of_eq rfl rfl
    · exact ⟨nofun, fun _ => rfl⟩

theorem dpCompare_statusFrame {c : Cond} {o : Operand2} {alu : Shifted → AluOut} :
    Ends (StatusFrame true wFpscr s) (dpCompare c o alu s) :=
  whenCond_ends (.refl ..) ⟨nofun, fun _ => rfl⟩

/-- A multiply writes the flags with `S = 1` and another destination than 15 (43_multiply.md R226). -/
theorem mulWrite_statusFrame {sf : Bool} {rd : Reg} {v : Word} :
    StatusFrame (sf && rd != 15) wFpscr s (mulWrite sf rd v s) := by
  unfold mulWrite; dsimp only; split
  case isTrue h => exact ⟨fun h' => absurd (h.symm.trans h') nofun, fun _ => rfl⟩
  case isFalse => exact .of_eq rfl rfl

theorem mulWriteLong_statusFrame {sf : Bool} {hi lo : Reg} {p : Dword} :
    StatusFrame (sf && hi != 15 && lo != 15) wFpscr s (mulWriteLong sf hi lo p s) := by
  unfold mulWriteLong; dsimp only; split
  case isTrue h => exact ⟨fun h' => absurd (h.symm.trans h') nofun, fun _ => rfl⟩
  case isFalse => exact .of_eq rfl rfl

end Writers

/-! ## Every instruction -/

/-- The status registers after what the VFP unit reads as instruction `i`: its compares write both. -/
theorem vfpUnit_statusFrame (i : Instr) (s : State) :
    Ends (StatusFrame (flagWriter i) (isCompare i) s) (vfpUnit i s) := by
  cases i
  case fcmps | fcmpd | fcmpes | fcmped | fcmpzs | fcmpzd | fcmpezs | fcmpezd => exact ⟨nofun, nofun⟩
  case fmrx | fmsrr | fmrrs =>
    simp only [vfpUnit, vfpFmrx, vfpFmsrr, vfpFmrrs]
    split <;> exact .of_eq rfl rfl
  case flds | fldd =>
    simp only [vfpUnit, vfpFlds, vfpFldd]
    exact inMode_ends (.refl ..) (loading_ends (.refl ..) fun _ => .of_eq rfl rfl)
  case fsts | fstd =>
    simp only [vfpUnit, vfpFsts, vfpFstd]
    exact inMode_ends (.refl ..) (storing_statusFrame (.refl ..) fun _ ht => ht)
  case fldmias | fldmdbs => exact vfpMultiple_statusFrame loadSingle_statusFrame (.refl ..)
  case fldmiad | fldmdbd => exact vfpMultiple_statusFrame loadDouble_statusFrame (.refl ..)
  case fstmias | fstmdbs => exact vfpMultiple_statusFrame storeSingle_statusFrame (.refl ..)
  case fstmiad | fstmdbd => exact vfpMultiple_statusFrame storeDouble_statusFrame (.refl ..)
  case unimplVfpRegister | unimplVfpRegisterList => exact vfpFault_ends (.refl ..)
  all_goals exact StatusFrame.of_eq rfl rfl

/-- The status registers after an instruction the engine executes itself. -/
theorem exec_engine_statusFrame {i : Instr} (hv : i.level ≠ .vfp) (hg : i.isGeneric ≠ true) (s : State) :
    Ends (StatusFrame (flagWriter i) (isCompare i) s) (exec i s) := by
  cases i <;> first | exact absurd rfl hv | exact absurd rfl hg | skip
  case and | eor | sub | rsb | add | adc | sbc | rsc | orr | mov | bic | mvn =>
    simp only [exec, execAnd, execEor, execSub, execRsb, execAdd, execAdc, execSbc, execRsc, execOrr, execMov,
      execBic, execMvn]
    exact dpWrite_statusFrame
  case tst | teq | cmp | cmn =>
    simp only [exec, execTst, execTeq, execCmp, execCmn]; exact dpCompare_statusFrame
  case mul | mla =>
    simp only [exec, execMul, execMla]; exact whenCond_ends (.refl ..) (mulWrite_statusFrame ..)
  case umull | umlal | smull | smlal =>
    simp only [exec, execUmull, execUmlal, execSmull, execSmlal]
    exact whenCond_ends (.refl ..) (mulWriteLong_statusFrame ..)
  case ldr | ldrb | ldrh | ldrsb | ldrsh =>
    simp only [exec, execLdr, execLdrb, execLdrh, execLdrsb, execLdrsh]
    exact whenCond_ends (.refl ..) (loadReg_statusFrame (.refl ..))
  case str | strb | strh =>
    simp only [exec, execStr, execStrb, execStrh]; exact whenCond_ends (.refl ..) (storeReg_statusFrame (.refl ..))
  case swp | swpb =>
    simp only [exec, execSwp, execSwpb]; exact whenCond_ends (.refl ..) (swap_statusFrame (.refl ..))
  case ldmia | ldmib | ldmda | ldmdb =>
    simp only [exec, execLdmia, execLdmib, execLdmda, execLdmdb]
    exact whenCond_ends (.refl ..) (blockTransfer_statusFrame ldmTransfer_statusFrame (.refl ..))
  case stmia | stmib | stmda | stmdb =>
    simp only [exec, execStmia, execStmib, execStmda, execStmdb]
    exact whenCond_ends (.refl ..) (blockTransfer_statusFrame stmTransfer_statusFrame (.refl ..))
  case b | bl | bx =>
    simp only [exec, execB, execBl, execBx]; exact whenCond_ends (.refl ..) (.of_eq rfl rfl)
  case und => exact StatusFrame.refl ..
  all_goals exact whenCond_ends (.refl ..) (StatusFrame.of_eq rfl rfl)

/-- No instruction of the VFP unit's list is a generic one. -/
theorem isGeneric_eq_false_of_vfp {i : Instr} (hv : i.level = .vfp) : i.isGeneric = false := by
  cases i <;> first | rfl | cases hv

/-- The status registers after any instruction, completed or stopped: a VFP instruction and a generic
coprocessor one go through the unit, the others are the engine's own. -/
theorem exec_statusFrame (i : Instr) (s : State) :
    Ends (StatusFrame (flagWriter (asExecuted i)) (isCompare (asExecuted i)) s) (exec i s) := by
  by_cases hv : i.level = .vfp
  · rw [exec_vfp hv, asExecuted, isGeneric_eq_false_of_vfp hv]
    exact coprocessor_ends (.refl ..) (vfpUnit_statusFrame i s)
  by_cases hg : i.isGeneric = true
  · rw [exec_generic hg, asExecuted, if_pos hg]
    exact coprocessor_ends (.refl ..) (vfpUnit_statusFrame _ s)
  · rw [asExecuted, if_neg hg]
    exact exec_engine_statusFrame hv hg s

/-! ## The multiplies keep C and V -/

/-- C and V as before. -/
def CarryKept (s t : State) : Prop := t.flagC = s.flagC ∧ t.flagV = s.flagV

theorem CarryKept.setNZ (s : State) (n z : Bool) : CarryKept s (s.setNZ n z) :=
  ⟨s.flagC_setFlags .., s.flagV_setFlags ..⟩

theorem mulWrite_carryKept (sf : Bool) (rd : Reg) (v : Word) (s : State) : CarryKept s (mulWrite sf rd v s) := by
  unfold mulWrite; dsimp only; split
  · exact CarryKept.setNZ (s.setReg rd v) _ _
  · exact ⟨rfl, rfl⟩

theorem mulWriteLong_carryKept (sf : Bool) (hi lo : Reg) (p : Dword) (s : State) :
    CarryKept s (mulWriteLong sf hi lo p s) := by
  unfold mulWriteLong; dsimp only; split
  · exact CarryKept.setNZ (State.setReg ..) _ _
  · exact ⟨rfl, rfl⟩

theorem exec_multiply_carryKept {i : Instr} (h : isMultiply i = true) (s : State) :
    Ends (CarryKept s) (exec i s) := by
  cases i <;> try cases h
  case mul | mla =>
    simp only [exec, execMul, execMla]; exact whenCond_ends ⟨rfl, rfl⟩ (mulWrite_carryKept ..)
  case umull | umlal | smull | smlal =>
    simp only [exec, execUmull, execUmlal, execSmull, execSmlal]
    exact whenCond_ends ⟨rfl, rfl⟩ (mulWriteLong_carryKept ..)

/-- Settles O23, from what each kind of instruction can do to the status registers. -/
theorem writersOfTheFlags : Obligations.WritersOfTheFlags := by
  intro i s t h
  obtain ⟨hcpsr, hfpscr⟩ : StatusFrame _ _ s t :=
    (h ▸ exec_statusFrame i s : Ends (StatusFrame _ _ s) (.next t))
  exact ⟨hcpsr, fun hm => (h ▸ exec_multiply_carryKept hm s : Ends (CarryKept s) (.next t)), hfpscr⟩

end Sys2Proof.Proofs
end

section
/-!
PROOFS. The VFP bank as one storage under two views (10_state.md R31, 49_vfp.md R360).
-/

namespace Sys2Proof.Proofs

open Sys2Proof.Machine

theorem lowSlot_toNat (i : DReg) : (lowSlot i).toNat = 2 * i.toNat := by revert i; decide

theorem highSlot_toNat (i : DReg) : (highSlot i).toNat = 2 * i.toNat + 1 := by revert i; decide

theorem dreg_low (s : State) (i : DReg) : (s.dreg i).extractLsb' 0 32 = s.sreg (lowSlot i) :=
  BitVec.extractLsb'_append_eq_right

theorem dreg_high (s : State) (i : DReg) : (s.dreg i).extractLsb' 32 32 = s.sreg (highSlot i) :=
  BitVec.extractLsb'_append_eq_left

/-- A write of an even single register replaces the low word of its double. -/
theorem dreg_setSReg_lowSlot (s : State) (i j : DReg) (v : Word) :
    (s.setSReg (lowSlot i) v).dreg j = if i = j then (s.dreg j).extractLsb' 32 32 ++ v else s.dreg j := by
  rw [dreg_high]
  by_cases h : i = j <;> simp [State.dreg, h]

/-- A write of an odd single register replaces the high word of its double. -/
theorem dreg_setSReg_highSlot (s : State) (i j : DReg) (v : Word) :
    (s.setSReg (highSlot i) v).dreg j = if i = j then v ++ (s.dreg j).extractLsb' 0 32 else s.dreg j := by
  rw [dreg_low]
  by_cases h : i = j <;> simp [State.dreg, h]

theorem sreg_lowSlot_setDReg (s : State) (i : DReg) (d : Dword) :
    (s.setDReg i d).sreg (lowSlot i) = d.extractLsb' 0 32 := by
  simp [State.setDReg]

theorem sreg_highSlot_setDReg (s : State) (i : DReg) (d : Dword) :
    (s.setDReg i d).sreg (highSlot i) = d.extractLsb' 32 32 := by
  simp [State.setDReg]

theorem dreg_setDReg_same (s : State) (i : DReg) (d : Dword) : (s.setDReg i d).dreg i = d := by
  rw [State.dreg, sreg_lowSlot_setDReg, sreg_highSlot_setDReg]
  exact BitVec.extractLsb'_append_extractLsb'

theorem dreg_setDReg_of_ne (s : State) {i j : DReg} (h : i ≠ j) (d : Dword) : (s.setDReg i d).dreg j = s.dreg j := by
  rw [State.setDReg, dreg_setSReg_highSlot, if_neg h, dreg_setSReg_lowSlot, if_neg h]

/-- Settles O46, from what each view reads after a write through either. -/
theorem registerAliasing : Obligations.RegisterAliasing := by
  intro s i j v d
  refine ⟨rfl, lowSlot_toNat i, highSlot_toNat i, ?_, ?_, sreg_lowSlot_setDReg s i d, sreg_highSlot_setDReg s i d,
    dreg_setDReg_same s i d, fun h => ⟨dreg_setDReg_of_ne s h d, ?_, ?_⟩⟩
  · rw [dreg_setSReg_lowSlot, if_pos rfl]
  · rw [dreg_setSReg_highSlot, if_pos rfl]
  · rw [dreg_setSReg_lowSlot, if_neg h]
  · rw [dreg_setSReg_highSlot, if_neg h]

end Sys2Proof.Proofs
end

section
/-!
PROOFS. The run contract (60_exceptions.md R440): the loop one step at a time, how a call ends, and the numbers of
its results.
-/

namespace Sys2Proof.Proofs

open Sys2Proof.Machine

/-! ## The loop -/

/-- A loop whose budget is spent goes on from where it stopped. -/
theorem runFor_exhausted_add {n : Nat} {s t : State} (m : Nat) (h : runFor n s = .exhausted t) :
    runFor (n + m) s = runFor m t := by
  induction n generalizing s with
  | zero => cases h; rw [Nat.zero_add]
  | succ n ih =>
    rw [Nat.add_right_comm]
    simp only [runFor] at h ⊢
    cases hs : step s with
    | next u =>
      cases hr : u.run with
      | running => simp only [hs, hr] at h ⊢; exact ih h
      | exited i => simp [hs, hr] at h
    | fault f => simp [hs] at h
    | refused r => simp [hs] at h

theorem runFor_running {s t : State} (n : Nat) (hs : step s = .next t) (ht : t.run = .running) :
    runFor (n + 1) s = runFor n t := by rw [runFor_next n hs, ht]

theorem runFor_exited {s t : State} {i : Interrupt} (n : Nat) (hs : step s = .next t) (ht : t.run = .exited i) :
    runFor (n + 1) s = .exited i t := by rw [runFor_next n hs, ht]

/-! ## The end of a call -/

/-- Two ends of one loop, neither by the budget, are the same end. -/
theorem runFor_final_unique {n m : Nat} {s : State} (hn : (runFor n s).isFinal = true)
    (hm : (runFor m s).isFinal = true) : runFor n s = runFor m s := by
  rcases Nat.le_total n m with h | h <;> obtain ⟨k, rfl⟩ := Nat.exists_eq_add_of_le h
  · exact (runFor_final_add k hn).symm
  · exact runFor_final_add k hm

theorem endsWith_unique {max : Word} {s : State} {e e' : RunEnd} (h : EndsWith max s e) (h' : EndsWith max s e') :
    e = e' := by
  unfold EndsWith at h h'
  split at h
  case isTrue hmax =>
    rw [if_pos hmax] at h'
    obtain ⟨n, rfl, hn⟩ := h
    obtain ⟨m, rfl, hm⟩ := h'
    exact runFor_final_unique hn hm
  case isFalse hmax =>
    rw [if_neg hmax] at h'
    exact h.symm.trans h'

theorem returns_unique {max : Word} {s : State} {r r' : RunResult} (h : Returns max s r) (h' : Returns max s r') :
    r = r' := by
  obtain ⟨e, he, hr⟩ := h
  obtain ⟨e', he', hr'⟩ := h'
  rw [endsWith_unique he he', hr'] at hr
  exact (Option.some.inj hr).symm

/-- A call whose first iteration is its last: every call has at least one, bounded or not. -/
theorem endsWith_of_first {s : State} {e : RunEnd} (max : Word) (hfirst : ∀ n, runFor (n + 1) s.resume = e)
    (hfinal : e.isFinal = true) : EndsWith max s e := by
  unfold EndsWith; split
  case isTrue => exact ⟨1, hfirst 0, hfinal⟩
  case isFalse hmax =>
    have hpos : 0 < max.toNat := BitVec.toNat_pos_of_ne_zero hmax
    obtain ⟨n, hn⟩ := Nat.exists_eq_add_one_of_ne_zero hpos.ne'
    rw [hn]; exact hfirst n

theorem returns_of_exhausted {max : Word} {s t : State} (hmax : max ≠ 0)
    (h : runFor max.toNat s.resume = .exhausted t) : Returns max s (.interrupt .resume) :=
  ⟨.exhausted t, by rwa [EndsWith, if_neg hmax], rfl⟩

theorem returns_of_exited {s t : State} {i : Interrupt} (max : Word) (hs : step s = .next t)
    (ht : t.run = .exited i) : Returns max s (.interrupt i) :=
  ⟨.exited i t, endsWith_of_first max (fun n => runFor_exited n ((step_resume s).trans hs) ht) rfl, rfl⟩

theorem returns_of_fault {s : State} {f : Fault} (max : Word) (hs : step s = .fault f) : Returns max s (.fault f) :=
  ⟨.faulted f, endsWith_of_first max (fun n => runFor_fault n ((step_resume s).trans hs)) rfl, rfl⟩

/-! ## The numbers -/

theorem mem_allInterrupts (i : Interrupt) : i ∈ allInterrupts := by cases i <;> decide

theorem mem_allFaultNames (k : FaultName) : k ∈ allFaultNames := by
  cases k with
  | unimplemented why => cases why <;> decide
  | undefined | segFault | outOfRange => decide

theorem intCode_injective {i j : Interrupt} (h : intCode i = intCode j) : i = j :=
  distinctCode_inj (mem_allInterrupts i) (mem_allInterrupts j) h

theorem faultCode_injective {a b : FaultName} (h : faultCode a = faultCode b) : a = b :=
  distinctCode_inj (mem_allFaultNames a) (mem_allFaultNames b) h

/-- Settles O60: the loop step by step, the end of a call, and the numbers, each by its lemmas above. -/
theorem runContract : Obligations.RunContract := by
  refine ⟨fun n m s t => ?_, fun max s t i f r r' => ?_, fun _ _ => intCode_injective, fun _ _ => faultCode_injective⟩
  · exact ⟨runFor_exhausted_add m, rfl, runFor_running n, fun _ => runFor_exited n, fun _ => runFor_fault n⟩
  · exact ⟨returns_of_exhausted, returns_of_exited max, returns_of_fault max, returns_unique⟩

end Sys2Proof.Proofs
end

section
/-!
PROOFS. What a fault leaves (20_memory.md R59, 60_exceptions.md R434): the state it carries meets the invariant, and
in the Protected variant the bytes the guest may not write are as before.
-/

namespace Sys2Proof.Proofs

open Sys2Proof.Machine Sys2Proof.Safety

/-- What every outcome of a step ends with holds of the state a fault carries. -/
theorem ends_faultState {P : State → Prop} {f : Fault} (h : Ends P (.fault f)) : P (faultState f) := by
  cases f <;> exact h

/-- Settles O20: the state a fault carries is the one `step_invariant` speaks of. -/
theorem faultKeepsInvariant : Obligations.FaultKeepsInvariant := by
  intro s f hs h
  exact ends_faultState (h ▸ step_invariant hs)

/-- One range authorises an access (20_memory.md R57). -/
theorem authorized_iff {ranges : List AccessRange} {a : Word} {n : Nat} {kind : AccessKind} :
    authorized ranges a n kind = true ↔
      ∃ r ∈ ranges, covers r.perm kind = true ∧ r.start.toNat ≤ a.toNat ∧ a.toNat + n ≤ r.start.toNat + r.size := by
  simp [authorized, allows, and_assoc]

/-- A byte of an access that some range lets the guest write is one it may write. -/
theorem writable_of_authorized {s : State} {a : Word} {n b : Nat} (h : authorized s.ranges a n .write = true)
    (hlo : a.toNat ≤ b) (hhi : b < a.toNat + n) : Writable s b := by
  obtain ⟨r, hr, hperm, hstart, hend⟩ := authorized_iff.mp h
  exact ⟨r, hr, hperm, hstart.trans hlo, hhi.trans_le hend⟩

/-- What byte `b`'s safety rests on: a canonical image in which `b` is as in `s`, and the checks of `s`. -/
def ByteKept (s : State) (b : Nat) (t : State) : Prop :=
  Memory.wf t.mem ∧ t.setup = s.setup ∧ t.ranges = s.ranges ∧ t.mem.read b = s.mem.read b

/-- A write the port of the Protected variant lets through does not reach a byte no range lets the guest write. -/
theorem byteKept_memWrite {s t : State} {a : Word} {n v b : Nat} (hprot : s.setup.variant = .prot)
    (hb : ¬Writable s b) (ht : ByteKept s b t) (hc : checkAccess t a n .write = none) :
    ByteKept s b { t with mem := t.mem.writeN a.toNat n v } := by
  obtain ⟨hwf, hsetup, hranges, hread⟩ := ht
  have hauth : authorized s.ranges a n .write = true :=
    hranges ▸ checkAccess_none_authorized hc (hsetup ▸ hprot)
  have hout : b < a.toNat ∨ a.toNat + n ≤ b := by
    by_contra hin
    exact hb (writable_of_authorized hauth (by omega) (by omega))
  exact ⟨Memory.writeN_wf _ _ _ hwf, hsetup, hranges, (Memory.read_writeN_of_outside _ _ _ _ hwf hout).trans hread⟩

theorem kept_byte {s : State} {b : Nat} (hprot : s.setup.variant = .prot) (hb : ¬Writable s b) :
    Kept (ByteKept s b) where
  setReg _ _ _ h := h
  setSReg _ _ _ h := h
  setFlags _ _ _ _ _ h := h
  compare u k h := by rwa [ByteKept, u.compare_mem, u.compare_setup, u.compare_ranges]
  memWrite _ _ _ _ := byteKept_memWrite hprot hb

/-- Settles O24, from what every write of a step keeps. -/
theorem protectedBytesUnchanged : Obligations.ProtectedBytesUnchanged := by
  rintro s b ⟨hwf, -⟩ hprot hb
  have hstep : Ends (ByteKept s b) (step s) := step_ends (kept_byte hprot hb) (fun _ _ h => h) ⟨hwf, rfl, rfl, rfl⟩
  refine ⟨fun t h => ?_, fun f h => ?_⟩
  · obtain ⟨-, -, -, hread⟩ : ByteKept s b t := (h ▸ hstep : Ends (ByteKept s b) (.next t))
    exact hread
  · obtain ⟨-, -, -, hread⟩ : ByteKept s b (faultState f) := ends_faultState (h ▸ hstep)
    exact hread

end Sys2Proof.Proofs
end

section
/-!
PROOFS. The memory port (20_memory.md R54 to R62): the little-endian value of bytes, who may access them in the
Protected variant, and the bound of the image.
-/

namespace Sys2Proof.Proofs

open Sys2Proof.Machine

/-! ## Bytes as a number -/

theorem readN_eq_sum (m : Memory) (a n : Nat) :
    m.readN a n = ∑ k ∈ Finset.range n, (m.read (a + k)).toNat * 2 ^ (8 * k) := by
  induction n generalizing a with
  | zero => rfl
  | succ n ih =>
    rw [Memory.readN, ih, Finset.sum_range_succ', Finset.mul_sum, Nat.add_comm]
    refine congrArg₂ (· + ·) (Finset.sum_congr rfl fun k _ => ?_) (by simp)
    rw [show a + 1 + k = a + (k + 1) by omega, Nat.mul_succ, Nat.pow_add]
    ring

/-- Settles O14: the sum, and the laws of a write of several bytes with `256 ^ n` as a power of 2. -/
theorem littleEndianMemory : Obligations.LittleEndianMemory := by
  intro m a n v hwf
  have hpow : ∀ k, 2 ^ (8 * k) = 256 ^ k := Nat.pow_mul 2 8
  refine ⟨readN_eq_sum m a n, ?_, fun k hk => ?_, fun b => Memory.read_writeN_of_outside a n v b hwf⟩
  · rw [hpow, Memory.readN_writeN a n v hwf]
  · rw [hpow, Memory.read_writeN_of_inside a n v k hwf hk]

/-! ## The checks of an access -/

/-- In the Protected variant a SegFault is exactly an access no range authorises, whatever the size of the image. -/
theorem checkAccess_segFault_iff {s : State} (hprot : s.setup.variant = .prot) (a : Word) (n : Nat)
    (kind : AccessKind) :
    checkAccess s a n kind = some (.segFault a n kind) ↔ ¬authorized s.ranges a n kind = true := by
  cases h : authorized s.ranges a n kind <;> simp [checkAccess, hprot, h]

/-- An authorised access is checked against the bound of the image only. -/
theorem checkAccess_authorized {s : State} {a : Word} {n : Nat} {kind : AccessKind}
    (h : authorized s.ranges a n kind = true) :
    checkAccess s a n kind = if s.setup.memSize < a.toNat + n then some (.outOfRange a n) else none := by
  simp [checkAccess, h]

theorem covers_read_iff (p : Permission) : covers p .read = true ↔ p = .read ∨ p = .readWrite := by
  cases p <;> decide

theorem covers_write_iff (p : Permission) : covers p .write = true ↔ p = .write ∨ p = .readWrite := by
  cases p <;> decide

/-- Settles O15, from the authorisation by one range and what the port makes of it. -/
theorem protectedAuthorisation : Obligations.ProtectedAuthorisation := by
  intro s a n v hprot
  simp only [← covers_read_iff, ← covers_write_iff, ← authorized_iff]
  refine ⟨?_, ?_, fun hr hin => ?_, fun hw hin => ?_, fun hnone => ?_⟩
  · rw [memRead_error_iff, checkAccess_segFault_iff hprot]
  · rw [memWrite_error_iff, checkAccess_segFault_iff hprot]
  · rw [memRead_ok_iff, checkAccess_authorized hr, if_neg hin.not_gt]
    exact ⟨rfl, rfl⟩
  · rw [memWrite_ok_iff, checkAccess_authorized hw, if_neg hin.not_gt]
    exact ⟨rfl, rfl⟩
  · exact step_denied ((checkAccess_segFault_iff hprot ..).mpr (by simp [hnone, authorized]))

/-- Settles O16: in the Raw variant, and under a range of the Protected one, the bound of the image decides. -/
theorem outOfImage : Obligations.OutOfImage := by
  intro s a n v
  simp only [memRead_error_iff, memWrite_error_iff, memRead_ok_iff, memWrite_ok_iff]
  refine ⟨fun hraw hout => ?_, fun _ hr hout => ?_, fun _ hw hout => ?_, fun hraw hin => ?_⟩
  · simp only [checkAccess_raw hraw, if_pos hout, and_self]
  · rw [checkAccess_authorized hr, if_pos hout]
  · rw [checkAccess_authorized hw, if_pos hout]
  · simp only [checkAccess_raw hraw, if_neg hin.not_gt, and_self]

end Sys2Proof.Proofs
end

section
/-!
PROOFS. Block transfers (45_block_transfer.md R280 to R290): the loop as one transfer after the other at the
addresses of R289, what a run of stores and a run of loads does, and the pairing of R287.
-/

namespace Sys2Proof.Proofs

open Sys2Proof.Machine Sys2Proof.Safety

/-! ## The order of the registers -/

/-- The registers of a list in the order they are transferred (45_block_transfer.md R280). -/
def transferOrder (up : Bool) (list : BitVec 16) : List Reg := if up then regsOf list else (regsOf list).reverse

/-- How many registers of a list are transferred before `r`, one of them. -/
def transferIndex (up : Bool) (list : BitVec 16) (r : Reg) : Nat :=
  if up then listRank list r else listCount list - 1 - listRank list r

theorem mem_regsOf {list : BitVec 16} {r : Reg} : r ∈ regsOf list ↔ list.getLsbD r.toNat = true := by
  have hall : r ∈ ([0, 1, 2, 3, 4, 5, 6, 7, 8, 9, 10, 11, 12, 13, 14, 15] : List Reg) := by revert r; decide
  simp only [regsOf, List.mem_filter, hall, true_and]

theorem mem_transferOrder {up : Bool} {list : BitVec 16} {r : Reg} :
    r ∈ transferOrder up list ↔ list.getLsbD r.toNat = true := by
  cases up <;> simp [transferOrder, mem_regsOf]

theorem regsOf_map_toNat (list : BitVec 16) : (regsOf list).map BitVec.toNat = (List.range 16).filter list.getLsbD :=
  List.filter_map.symm

/-- Of the numbers below `m` with a property, each has as many before it as its place says. -/
theorem map_countP_filter_range (p : Nat → Bool) (m : Nat) :
    ((List.range m).filter p).map (fun i => (List.range i).countP p) = List.range ((List.range m).countP p) := by
  induction m with
  | zero => rfl
  | succ m ih => cases h : p m <;> simp [List.range_succ, h, ih]

theorem regsOf_map_rank (list : BitVec 16) : (regsOf list).map (listRank list) = List.range (listCount list) := by
  have h := map_countP_filter_range list.getLsbD 16
  rwa [← regsOf_map_toNat, List.map_map] at h

theorem listRank_lt {list : BitVec 16} {r : Reg} (h : list.getLsbD r.toNat = true) :
    listRank list r < listCount list := by
  have hmem := List.mem_map_of_mem (f := listRank list) (mem_regsOf.mpr h)
  rwa [regsOf_map_rank, List.mem_range] at hmem

theorem listCount_le (list : BitVec 16) : listCount list ≤ 16 := List.countP_le_length

/-- Counting down and turning the count round is counting up. -/
theorem reverse_map_range_sub (n : Nat) : ((List.range n).map (n - 1 - ·)).reverse = List.range n :=
  List.ext_getElem (by simp) fun i _ hi => by
    rw [List.length_range] at hi
    simp; omega

/-- Transfer after transfer, the registers have the places 0, 1, 2 and so on. -/
theorem transferOrder_map_index (up : Bool) (list : BitVec 16) :
    (transferOrder up list).map (transferIndex up list) = List.range (listCount list) := by
  cases up with
  | true => exact regsOf_map_rank list
  | false =>
    have hdown : transferIndex false list = (listCount list - 1 - ·) ∘ listRank list := rfl
    rw [transferOrder, if_neg Bool.false_ne_true, List.map_reverse, hdown, ← List.map_map, regsOf_map_rank]
    exact reverse_map_range_sub (listCount list)

theorem transferOrder_length (up : Bool) (list : BitVec 16) : (transferOrder up list).length = listCount list := by
  simpa using congrArg List.length (transferOrder_map_index up list)

/-! ## The addresses -/

/-- The address `k` words on in the direction of the transfer. -/
def wordsOn (up : Bool) (a : Word) (k : Nat) : Word :=
  if up then a + BitVec.ofNat 32 (4 * k) else a - BitVec.ofNat 32 (4 * k)

theorem wordsOn_up (a : Word) (k : Nat) : wordsOn true a k = a + BitVec.ofNat 32 (4 * k) := rfl

theorem wordsOn_down (a : Word) (k : Nat) : wordsOn false a k = a - BitVec.ofNat 32 (4 * k) := rfl

theorem wordsOn_zero (up : Bool) (a : Word) : wordsOn up a 0 = a := by cases up <;> simp [wordsOn]

theorem wordsOn_listCount (up : Bool) (base : Word) (list : BitVec 16) :
    wordsOn up base (listCount list) = blockFinal up base list := rfl

theorem nextWord_wordsOn (up : Bool) (a : Word) (k : Nat) : nextWord up (wordsOn up a k) = wordsOn up a (k + 1) := by
  cases up <;> simp [nextWord, wordsOn_up, wordsOn_down] <;> bv_omega

/-- A listed register's address, counted from the base in the direction of the transfer (45_block_transfer.md R289). -/
theorem blockAddress_eq_wordsOn {before up : Bool} {base : Word} {list : BitVec 16} {r : Reg}
    (h : list.getLsbD r.toNat = true) :
    blockAddress before up base list r = wordsOn up base (transferIndex up list r + before.toNat) := by
  have hlt := listRank_lt h
  have hle := listCount_le list
  cases before <;> cases up <;> simp [blockAddress, wordsOn, transferIndex] <;> bv_omega

/-- From the base a transfer has left, the opposite mode uses the same addresses (45_block_transfer.md R287). -/
theorem blockAddress_opposite (before up : Bool) (base : Word) (list : BitVec 16) (r : Reg) :
    blockAddress (!before) (!up) (blockFinal up base list) list r = blockAddress before up base list r := by
  cases before <;> cases up <;> simp [blockAddress, blockFinal]

theorem blockFinal_opposite (up : Bool) (base : Word) (list : BitVec 16) :
    blockFinal (!up) (blockFinal up base list) list = base := by
  cases up <;> simp [blockFinal]

/-- The words at two addresses have no byte in common. -/
def Apart (x y : Word) : Prop := x.toNat + 4 ≤ y.toNat ∨ y.toNat + 4 ≤ x.toNat

/-- Words of one block are apart, even where it wraps around the address space. -/
theorem wordsOn_apart (up : Bool) (a : Word) {i j : Nat} (hij : i < j) (hj : j ≤ 16) :
    Apart (wordsOn up a i) (wordsOn up a j) := by
  cases up <;> simp only [Apart, wordsOn_up, wordsOn_down] <;> bv_omega

theorem transferOrder_apart (before up : Bool) (base : Word) (list : BitVec 16) :
    (transferOrder up list).Pairwise
      fun q r => Apart (blockAddress before up base list q) (blockAddress before up base list r) := by
  have hidx : (transferOrder up list).Pairwise fun q r => transferIndex up list q < transferIndex up list r := by
    rw [← List.pairwise_map, transferOrder_map_index]
    exact List.pairwise_lt_range
  refine hidx.imp_of_mem fun {q r} hq hr hlt => ?_
  have hr' : transferIndex up list r < listCount list := by
    rw [← List.mem_range, ← transferOrder_map_index]
    exact List.mem_map_of_mem hr
  have hcount := listCount_le list
  have hb := before.toNat_le
  rw [blockAddress_eq_wordsOn (mem_transferOrder.mp hq), blockAddress_eq_wordsOn (mem_transferOrder.mp hr)]
  exact wordsOn_apart up base (by omega) (by omega)

/-! ## The loop -/

/-- The transfers of registers `rs`, each with the word at its own address, and what follows them. -/
def transferAll (transfer : Reg → Word → State → Except MemFault State) (addr : Reg → Word) (k : State → Result) :
    List Reg → State → Result
  | [], s => k s
  | r :: rs, s =>
    match transfer r (addr r) s with
    | .ok s' => transferAll transfer addr k rs s'
    | .error f => .fault (.memory f s)

/-- The loop, part way through: with `i` transfers made, the address has moved `i` words from the base. -/
theorem blockLoop_eq_transferAll {before up : Bool} {transfer : Reg → Word → State → Except MemFault State}
    {k : Word → State → Result} {addr : Reg → Word} {index : Reg → Nat} {base : Word} {rs : List Reg} {i : Nat}
    {s : State} (hindex : rs.map index = List.range' i rs.length)
    (haddr : ∀ r ∈ rs, addr r = wordsOn up base (index r + before.toNat)) :
    blockLoop before up transfer k rs (wordsOn up base i) s =
      transferAll transfer addr (k (wordsOn up base (i + rs.length))) rs s := by
  induction rs generalizing i s with
  | nil => rfl
  | cons r rs ih =>
    simp only [List.map_cons, List.length_cons, List.range'_succ, List.cons.injEq] at hindex
    obtain ⟨hr, hrs⟩ := hindex
    have hslot : (if before then nextWord up (wordsOn up base i) else wordsOn up base i) = addr r := by
      rw [haddr r List.mem_cons_self, hr, nextWord_wordsOn]; cases before <;> rfl
    rw [blockLoop_cons, hslot, transferAll, nextWord_wordsOn]
    cases transfer r (addr r) s with
    | ok s' =>
      rw [List.length_cons, Nat.add_comm rs.length, ← Nat.add_assoc]
      exact ih hrs fun q hq => haddr q (List.mem_cons_of_mem r hq)
    | error f => rfl

/-- A block transfer is the transfers of the listed registers in their order, each at its address, and the
write-back (45_block_transfer.md R280, R283, R289). -/
theorem blockTransfer_eq_transferAll (before up : Bool) (transfer : Reg → Word → State → Except MemFault State)
    (wb : Bool) (rn : Reg) (list : BitVec 16) (s : State) :
    blockTransfer before up transfer wb rn list s =
      transferAll transfer (blockSlot before up rn list s)
        (fun t => .next (if wb then t.setReg rn (blockFinal up (s.rd rn s.setup.off.bdtBase) list) else t))
        (transferOrder up list) s := by
  have hindex : (transferOrder up list).map (transferIndex up list) = List.range' 0 (transferOrder up list).length := by
    rw [transferOrder_map_index, transferOrder_length, List.range_eq_range']
  have haddr : ∀ r ∈ transferOrder up list, blockSlot before up rn list s r =
      wordsOn up (s.rd rn s.setup.off.bdtBase) (transferIndex up list r + before.toNat) :=
    fun r hr => blockAddress_eq_wordsOn (mem_transferOrder.mp hr)
  have hloop := blockLoop_eq_transferAll (transfer := transfer) (s := s)
    (k := fun a t => .next (if wb then t.setReg rn a else t)) hindex haddr
  rwa [wordsOn_zero, Nat.zero_add, transferOrder_length, wordsOn_listCount] at hloop

/-! ## A run of stores, a run of loads -/

/-- Memory after the stores of an STM: register by register its value in its word. -/
def storeAll (v : Reg → Word) (addr : Reg → Word) (rs : List Reg) (m : Memory) : Memory :=
  rs.foldl (fun m r => m.writeN (addr r).toNat 4 (v r).toNat) m

/-- The state after the loads of an LDM. -/
def loadAll (addr : Reg → Word) (rs : List Reg) (s : State) : State :=
  rs.foldl (fun s r => s.setReg r (BitVec.ofNat 32 (s.mem.readN (addr r).toNat 4))) s

/-- The stores complete exactly when the port lets each of them through. -/
theorem transferAll_stm_next {addr : Reg → Word} {k : State → Result} {rs : List Reg} {s t : State} :
    transferAll stmTransfer addr k rs s = .next t ↔
      (∀ r ∈ rs, checkAccess s (addr r) 4 .write = none) ∧
        k { s with mem := storeAll (fun r => s.rd r s.setup.off.stmStore) addr rs s.mem } = .next t := by
  induction rs generalizing s with
  | nil => simp [transferAll, storeAll]
  | cons r rs ih =>
    rw [transferAll, List.forall_mem_cons, and_assoc]
    cases hc : checkAccess s (addr r) 4 .write with
    | none =>
      rw [stmTransfer, memWrite, hc, and_iff_right rfl]
      exact ih
    | some f => simp [stmTransfer, memWrite, hc]

/-- The loads complete where the port lets each of them through: they leave what the port checks alone. -/
theorem transferAll_ldm {addr : Reg → Word} (k : State → Result) {rs : List Reg} {s : State}
    (h : ∀ r ∈ rs, checkAccess s (addr r) 4 .read = none) :
    transferAll ldmTransfer addr k rs s = k (loadAll addr rs s) := by
  induction rs generalizing s with
  | nil => rfl
  | cons r rs ih =>
    obtain ⟨hr, hrs⟩ := List.forall_mem_cons.mp h
    rw [transferAll, ldmTransfer, memRead, hr]
    exact ih hrs

/-- The loads of an LDM write the registers only, so each reads memory as it was before the first. -/
theorem reg_loadAll (addr : Reg → Word) (rs : List Reg) (s : State) (q : Reg) :
    (loadAll addr rs s).reg q = if q ∈ rs then BitVec.ofNat 32 (s.mem.readN (addr q).toNat 4) else s.reg q := by
  induction rs generalizing s with
  | nil => simp [loadAll]
  | cons r rs ih =>
    rw [loadAll, List.foldl_cons, ← loadAll, ih, State.setReg_mem, State.reg_setReg]
    by_cases hr : r = q
    · subst hr; simp
    · simp [hr, Ne.symm hr]

/-- A word apart from all that are stored reads as before. -/
theorem readN_storeAll_of_apart {v addr : Reg → Word} {rs : List Reg} {m : Memory} {x : Word} (hm : Memory.wf m)
    (h : ∀ r ∈ rs, Apart x (addr r)) : (storeAll v addr rs m).readN x.toNat 4 = m.readN x.toNat 4 := by
  induction rs generalizing m with
  | nil => rfl
  | cons r rs ih =>
    obtain ⟨hr, hrs⟩ := List.forall_mem_cons.mp h
    refine (ih (Memory.writeN_wf _ _ _ hm) hrs).trans (Memory.readN_congr _ _ fun b hlo hhi => ?_)
    exact Memory.read_writeN_of_outside _ _ _ _ hm (by unfold Apart at hr; omega)

/-- Each stored register's word holds its value when all are stored: no later store touches it. -/
theorem readN_storeAll {v addr : Reg → Word} {rs : List Reg} {m : Memory} {q : Reg} (hm : Memory.wf m)
    (hapart : rs.Pairwise fun p r => Apart (addr p) (addr r)) (hq : q ∈ rs) :
    (storeAll v addr rs m).readN (addr q).toNat 4 = (v q).toNat := by
  induction rs generalizing m with
  | nil => exact absurd hq List.not_mem_nil
  | cons r rs ih =>
    obtain ⟨hr, hrs⟩ := List.pairwise_cons.mp hapart
    have hm' := Memory.writeN_wf (addr r).toNat 4 (v r).toNat hm
    rcases List.mem_cons.mp hq with rfl | hq
    · refine (readN_storeAll_of_apart hm' hr).trans ?_
      rw [Memory.readN_writeN _ _ _ hm]
      exact Nat.mod_eq_of_lt (v q).isLt
    · exact ih hm' hrs hq

/-- What a load finds in a listed register's word after the stores of a block transfer. -/
theorem readN_storeAll_transferOrder {v : Reg → Word} {before up : Bool} {base : Word} {list : BitVec 16} {m : Memory}
    {r : Reg} (hm : Memory.wf m) (hr : list.getLsbD r.toNat = true) :
    BitVec.ofNat 32 ((storeAll v (blockAddress before up base list) (transferOrder up list) m).readN
      (blockAddress before up base list r).toNat 4) = v r := by
  rw [readN_storeAll hm (transferOrder_apart before up base list) (mem_transferOrder.mpr hr), BitVec.ofNat_toNat,
    BitVec.setWidth_eq]

/-! ## The pairing -/

/-- What may be written may be read: in the Raw variant always, in the Protected one where a range says so. -/
theorem checkAccess_read_of_write {s : State} {a : Word} {n : Nat} (h : checkAccess s a n .write = none)
    (hprot : s.setup.variant = .prot → checkAccess s a n .read = none) : checkAccess s a n .read = none := by
  cases hv : s.setup.variant with
  | raw => rwa [checkAccess_raw hv] at h ⊢
  | prot => exact hprot hv

/-- The base of a block transfer is the register's value where register 15 has no offset there. -/
theorem rd_bdtBase (s : State) {rn : Reg} (h : rn = 15 → s.setup.off.bdtBase = 0) :
    s.rd rn s.setup.off.bdtBase = s.reg rn := by
  unfold State.rd; split
  · subst rn; simp [h rfl]
  · rfl

/-- The pairing for any store mode: the load finds each stored word at the address the store put it. -/
theorem pairs_of_opposite {stm ldm : Instr} {c : Cond} {before up : Bool} {rn : Reg} {list : BitVec 16} {s : State}
    (hstm : ∀ s, exec stm s = whenCond c s (blockTransfer before up stmTransfer true rn list))
    (hldm : ∀ s, exec ldm s = whenCond ldm.cond s (blockTransfer (!before) (!up) ldmTransfer true rn list))
    (hc : Passes c s) (hs : Invariant s) (hrn : list.getLsbD rn.toNat = false) (hpc : list.getLsbD 15 = false)
    (hbase : rn = 15 → s.setup.off.bdtBase = 0) : Pairs stm ldm before up rn list s := by
  intro hread t t' ht hmem hsetup hranges hreg hpass
  obtain ⟨hwf, -⟩ := hs
  rw [hstm, whenCond_passes _ hc, blockTransfer_eq_transferAll, transferAll_stm_next] at ht
  obtain ⟨hwrite, ht⟩ := ht
  cases ht
  have hbase' : t'.rd rn t'.setup.off.bdtBase = blockFinal up (s.rd rn s.setup.off.bdtBase) list := by
    rw [rd_bdtBase t' (by rw [hsetup]; exact hbase), hreg]; simp
  have hslot : blockSlot (!before) (!up) rn list t' = blockSlot before up rn list s := by
    funext r
    rw [blockSlot, hbase', blockAddress_opposite, blockSlot]
  have hallowed : ∀ r ∈ transferOrder (!up) list, checkAccess t' (blockSlot before up rn list s r) 4 .read = none := by
    intro r hr
    have hlisted := mem_transferOrder.mp hr
    rw [checkAccess_congr (s := s) hranges hsetup]
    exact checkAccess_read_of_write (hwrite r (mem_transferOrder.mpr hlisted)) fun hv => hread hv r hlisted
  rw [hldm, whenCond_passes _ hpass, blockTransfer_eq_transferAll, hslot, transferAll_ldm _ hallowed, hbase',
    blockFinal_opposite, rd_bdtBase s hbase]
  refine ⟨_, rfl, by simp, fun r hr => ?_⟩
  have hne : rn ≠ r := by rintro rfl; exact absurd (hrn.symm.trans hr) nofun
  have hne15 : r ≠ 15 := by rintro rfl; exact absurd (hpc.symm.trans hr) nofun
  rw [if_pos rfl, State.reg_setReg, if_neg hne, reg_loadAll, if_pos (mem_transferOrder.mpr hr), hmem]
  exact (readN_storeAll_transferOrder hwf hr).trans (if_neg hne15)

/-- Settles O43: the four modes, each with its opposite. -/
theorem blockTransferPairing : Obligations.BlockTransferPairing := by
  intro c d rn list s hc hs hrn hpc hbase
  refine ⟨?_, ?_, ?_, ?_⟩ <;> exact pairs_of_opposite (fun _ => rfl) (fun _ => rfl) hc hs hrn hpc hbase

end Sys2Proof.Proofs
end

section
/-!
PROOFS. The fields of a word: what a field reads of a word that is put together of fields, and of the masks of
spec/opcode_table.json.
-/

namespace Sys2Proof.Proofs

/-! ## One bit -/

@[simp] theorem bit_or (v w : Word) (i : Nat) : bit (v ||| w) i = (bit v i || bit w i) := BitVec.getLsbD_or

theorem bit_put {n : Nat} (lo : Nat) (v : BitVec n) (i : Nat) :
    bit (put lo v) i = (decide (i < 32) && decide (lo ≤ i) && v.getLsbD (i - lo)) := by
  simp only [bit, put, BitVec.getLsbD_shiftLeft, BitVec.getLsbD_setWidth]
  have hsub : i < 32 → i - lo < 32 := by omega
  by_cases hi : i < 32
  · simp [hi, hsub hi, ← decide_not]
  · simp [hi]

@[simp] theorem bit_put_inside {n : Nat} (lo : Nat) (v : BitVec n) (i : Nat) (hlo : lo ≤ i) (hi : i < 32) :
    bit (put lo v) i = v.getLsbD (i - lo) := by
  simp [bit_put, hlo, hi]

@[simp] theorem bit_put_below {n : Nat} (lo : Nat) (v : BitVec n) (i : Nat) (h : i < lo) :
    bit (put lo v) i = false := by
  simp [bit_put, Nat.not_le.mpr h]

@[simp] theorem bit_put_above {n : Nat} (lo : Nat) (v : BitVec n) (i : Nat) (h : lo + n ≤ i) :
    bit (put lo v) i = false := by
  rw [bit_put, BitVec.getLsbD_of_ge v _ (by omega), Bool.and_false]

/-! ## Several bits -/

theorem getLsbD_bits (w : Word) (lo n k : Nat) : (bits w lo n).getLsbD k = (decide (k < n) && bit w (lo + k)) :=
  BitVec.getLsbD_extractLsb' lo n w k

/-- A field has a value exactly when its bits have. -/
theorem bits_eq_iff {w : Word} {lo n : Nat} {v : BitVec n} :
    bits w lo n = v ↔ ∀ i < n, bit w (lo + i) = v.getLsbD i := by
  rw [BitVec.eq_of_getLsbD_eq_iff]
  refine forall₂_congr fun i hi => ?_
  rw [getLsbD_bits, decide_eq_true hi, Bool.true_and]

@[simp] theorem bits_or (v w : Word) (lo n : Nat) : bits (v ||| w) lo n = bits v lo n ||| bits w lo n :=
  BitVec.extractLsb'_or

@[simp] theorem bits_put_same {n : Nat} (lo : Nat) (v : BitVec n) (h : lo + n ≤ 32) : bits (put lo v) lo n = v := by
  refine bits_eq_iff.mpr fun i hi => ?_
  rw [bit_put_inside _ _ _ (by omega) (by omega), Nat.add_sub_cancel_left]

@[simp] theorem bits_put_apart {m : Nat} (p : Nat) (v : BitVec m) (lo n : Nat) (h : p + m ≤ lo ∨ lo + n ≤ p) :
    bits (put p v) lo n = 0 := by
  refine bits_eq_iff.mpr fun i hi => ?_
  rcases h with h | h
  · rw [bit_put_above _ _ _ (by omega)]; simp
  · rw [bit_put_below _ _ _ (by omega)]; simp

/-! ## The condition and the bits below it -/

theorem condOf_eq {w : Word} {c : Cond} (h : w.extractLsb' 28 4 = c.code) : condOf w = c := by
  rw [condOf, bits, h]; cases c <;> rfl

theorem getLsbD_bodyOf (w : Word) (i : Nat) : (bodyOf w).getLsbD i = (decide (i < 28) && bit w i) := by
  rw [bodyOf, getLsbD_bits, Nat.zero_add]

@[simp] theorem condOf_encodeBody (c : Cond) (b : Body) : condOf (encodeBody c b) = c :=
  condOf_eq (encodeBody_cond c b)

@[simp] theorem bodyOf_encodeBody (c : Cond) (b : Body) : bodyOf (encodeBody c b) = b := by
  simp [bodyOf, encodeBody, withCond]

/-! ## The row tests -/

/-- A row test compares the bits its mask has. -/
theorem hits_bodyOf (m p : Body) (w : Word) :
    Body.hits m p (bodyOf w) = true ↔ ∀ i < 28, (bit w i && m.getLsbD i) = p.getLsbD i := by
  rw [Body.hits, beq_iff_eq, BitVec.eq_of_getLsbD_eq_iff]
  refine forall₂_congr fun i hi => ?_
  rw [BitVec.getLsbD_and, getLsbD_bodyOf, decide_eq_true hi, Bool.true_and]

/-- A word that meets a row test has the pattern's bits where the mask has a 1. -/
theorem bit_of_hits {m p : Body} {w : Word} (h : Body.hits m p (bodyOf w) = true) (i : Nat) (hi : i < 28)
    (hm : m.getLsbD i = true) : bit w i = p.getLsbD i := by
  rw [← (hits_bodyOf m p w).mp h i hi, hm, Bool.and_true]

theorem isBx_iff (w : Word) : Body.isBx (bodyOf w) = true ↔
    bits w 8 20 = 0x12FFF ∧ bit w 7 = false ∧ bit w 6 = false ∧ bit w 5 = false ∧ bit w 4 = true := by
  simp only [Body.isBx, hits_bodyOf, bits_eq_iff, Nat.forall_lt_succ_right]
  grind

theorem isSwp_iff (w : Word) : Body.isSwp (bodyOf w) = true ↔
    bits w 23 5 = 2 ∧ bits w 20 2 = 0 ∧ bits w 4 8 = 9 := by
  simp only [Body.isSwp, hits_bodyOf, bits_eq_iff, Nat.forall_lt_succ_right]
  grind

theorem isMul_iff (w : Word) : Body.isMul (bodyOf w) = true ↔
    bits w 24 4 = 0 ∧ bit w 23 = false ∧ bit w 22 = false ∧ bits w 4 4 = 9 := by
  simp only [Body.isMul, hits_bodyOf, bits_eq_iff, Nat.forall_lt_succ_right]
  grind

theorem isMull_iff (w : Word) : Body.isMull (bodyOf w) = true ↔
    bits w 24 4 = 0 ∧ bit w 23 = true ∧ bits w 4 4 = 9 := by
  simp only [Body.isMull, hits_bodyOf, bits_eq_iff, Nat.forall_lt_succ_right]
  grind

theorem isHdtReg_iff (w : Word) : Body.isHdtReg (bodyOf w) = true ↔
    bits w 25 3 = 0 ∧ bit w 22 = false ∧ bits w 8 4 = 0 ∧ bit w 7 = true ∧ bit w 4 = true := by
  simp only [Body.isHdtReg, hits_bodyOf, bits_eq_iff, Nat.forall_lt_succ_right]
  grind

theorem isHdtImm_iff (w : Word) : Body.isHdtImm (bodyOf w) = true ↔
    bits w 25 3 = 0 ∧ bit w 22 = true ∧ bit w 7 = true ∧ bit w 4 = true := by
  simp only [Body.isHdtImm, hits_bodyOf, bits_eq_iff, Nat.forall_lt_succ_right]
  grind

end Sys2Proof.Proofs
end

section
/-!
PROOFS. The classifier (30_encoding.md R82) as tests of the bits below the condition, and what the decoder makes of a
format.
-/

namespace Sys2Proof.Proofs

/-! ## The table in order -/

/-- A mask below the condition field tests the body of a word. -/
theorem hits_setWidth (f : Format) (m p : Body) (w : Word) :
    FormatRow.hits ⟨f, m.setWidth 32, p.setWidth 32⟩ w = Body.hits m p (bodyOf w) := by
  rw [Bool.eq_iff_iff, hits_bodyOf, FormatRow.hits, beq_iff_eq, BitVec.eq_of_getLsbD_eq_iff]
  simp only [BitVec.getLsbD_and, BitVec.getLsbD_setWidth]
  refine ⟨fun h i hi => ?_, fun h i hi => ?_⟩
  · simpa [show i < 32 by omega, bit] using h i (by omega)
  · by_cases hi' : i < 28
    · simpa [hi, bit] using h i hi'
    · simp [BitVec.getLsbD_of_ge _ i (Nat.le_of_not_lt hi')]

/-- The table of 30_encoding.md R82 without the condition's bits. -/
def bodyTable : List (Format × Body × Body) :=
  [(.bx,     0xFFFFFF0, 0x12FFF10),
   (.swp,    0xFB00FF0, 0x1000090),
   (.mul,    0xFC000F0, 0x0000090),
   (.mull,   0xF8000F0, 0x0800090),
   (.hdtReg, 0xE400F90, 0x0000090),
   (.hdtImm, 0xE400090, 0x0400090),
   (.dp,     0xC000000, 0x0000000),
   (.und,    0xE000010, 0x6000010),
   (.sdt,    0xC000000, 0x4000000),
   (.bdt,    0xE000000, 0x8000000),
   (.b,      0xE000000, 0xA000000),
   (.cdt,    0xE000000, 0xC000000),
   (.cdo,    0xF000010, 0xE000000),
   (.crt,    0xF000010, 0xE000010),
   (.swi,    0xF000000, 0xF000000)]

/-- The first row of a table that a body satisfies. -/
def firstHit (b : Body) : List (Format × Body × Body) → Option Format
  | [] => none
  | (f, m, p) :: rows => if Body.hits m p b then some f else firstHit b rows

theorem classify_eq_firstHit (w : Word) : classify w = firstHit (bodyOf w) bodyTable := by
  have htable : formatTable = bodyTable.map fun r => ⟨r.1, r.2.1.setWidth 32, r.2.2.setWidth 32⟩ := by decide
  rw [classify, htable]
  generalize bodyTable = rows
  induction rows with
  | nil => rfl
  | cons r rows ih =>
    rw [List.map_cons, List.find?_cons, hits_setWidth, firstHit, ← ih]
    cases Body.hits r.2.1 r.2.2 (bodyOf w) <;> rfl

/-- The format of a word whose bits 27:26 are not 00. -/
def highFormat (w : Word) : Format :=
  if bit w 27 = false then (if bit w 25 = true ∧ bit w 4 = true then .und else .sdt)
  else if bit w 26 = false then (if bit w 25 = true then .b else .bdt)
  else if bit w 25 = false then .cdt
  else if bit w 24 = true then .swi
  else if bit w 4 = true then .crt
  else .cdo

theorem isDpSpace_iff (w : Word) : Body.hits 0xC000000 0x0000000 (bodyOf w) = true ↔
    bit w 27 = false ∧ bit w 26 = false := by
  simp only [hits_bodyOf, Nat.forall_lt_succ_right]
  grind

theorem firstHit_high (w : Word) (h : ¬(bit w 27 = false ∧ bit w 26 = false)) :
    firstHit (bodyOf w) (bodyTable.drop 7) = some (highFormat w) := by
  simp only [bodyTable, List.drop, firstHit, hits_bodyOf, Nat.forall_lt_succ_right]
  simp [highFormat]
  revert h
  generalize bit w 27 = b27, bit w 26 = b26, bit w 25 = b25, bit w 24 = b24, bit w 4 = b4
  revert b27 b26 b25 b24 b4
  decide

/-- The classifier, test by test. -/
theorem classify_eq (w : Word) : classify w =
    if Body.isBx (bodyOf w) then some .bx
    else if Body.isSwp (bodyOf w) then some .swp
    else if Body.isMul (bodyOf w) then some .mul
    else if Body.isMull (bodyOf w) then some .mull
    else if Body.isHdtReg (bodyOf w) then some .hdtReg
    else if Body.isHdtImm (bodyOf w) then some .hdtImm
    else if Body.hits 0xC000000 0x0000000 (bodyOf w) then some .dp
    else firstHit (bodyOf w) (bodyTable.drop 7) :=
  classify_eq_firstHit w

/-! ## Which tests exclude each other -/

/-- A test of fewer bits is weaker. -/
theorem hits_mono {m p m' p' b : Body} (h : Body.hits m p b = true) (hm : m &&& m' = m') (hp : p &&& m' = p') :
    Body.hits m' p' b = true := by
  rw [Body.hits, beq_iff_eq] at h ⊢
  rw [← hp, ← h, BitVec.and_assoc, hm]

/-- Two tests that ask for different values of a bit exclude each other. -/
theorem hits_exclusive {m p m' p' b : Body} (h : Body.hits m p b = true) (hne : p &&& m' ≠ p' &&& m) :
    Body.hits m' p' b = false := by
  rw [Bool.eq_false_iff]
  intro h'
  rw [Body.hits, beq_iff_eq] at h h'
  rw [← h, ← h', BitVec.and_assoc, BitVec.and_assoc, BitVec.and_comm m] at hne
  exact hne rfl

/-- The formats tested before data processing have bits 27:26 = 00. -/
theorem isDpSpace_of_low {b : Body} (h : (Body.isBx b || Body.isSwp b || Body.isMul b || Body.isMull b
    || Body.isHdtReg b || Body.isHdtImm b) = true) : Body.hits 0xC000000 0x0000000 b = true := by
  simp only [Bool.or_eq_true] at h
  rcases h with ((((h | h) | h) | h) | h) | h <;> exact hits_mono h (by decide) (by decide)

/-- Bits 6:5 tell the halfword and signed transfers from the swaps and multiplies. -/
theorem not_multiply_of_sh {w : Word} (h : bit w 6 = true ∨ bit w 5 = true) :
    (Body.isSwp (bodyOf w) || Body.isMul (bodyOf w) || Body.isMull (bodyOf w)) = false := by
  rw [Bool.eq_false_iff]
  intro hm
  simp only [Bool.or_eq_true] at hm
  have hsh : Body.hits 0x0000060 0x0000000 (bodyOf w) = true := by
    rcases hm with (hm | hm) | hm <;> exact hits_mono hm (by decide) (by decide)
  have h6 : bit w 6 = false := bit_of_hits hsh 6 (by decide) rfl
  have h5 : bit w 5 = false := bit_of_hits hsh 5 (by decide) rfl
  simp [h6, h5] at h

/-! ## The formats -/

theorem classify_bx {w : Word} (h : Body.isBx (bodyOf w) = true) : classify w = some .bx := by
  rw [classify_eq, if_pos h]

theorem classify_swp {w : Word} (h : Body.isSwp (bodyOf w) = true) : classify w = some .swp := by
  have hbx : Body.isBx (bodyOf w) = false := hits_exclusive h (by decide)
  simp [classify_eq, hbx, h]

theorem classify_mul {w : Word} (h : Body.isMul (bodyOf w) = true) : classify w = some .mul := by
  have hbx : Body.isBx (bodyOf w) = false := hits_exclusive h (by decide)
  have hswp : Body.isSwp (bodyOf w) = false := hits_exclusive h (by decide)
  simp [classify_eq, hbx, hswp, h]

theorem classify_mull {w : Word} (h : Body.isMull (bodyOf w) = true) : classify w = some .mull := by
  have hbx : Body.isBx (bodyOf w) = false := hits_exclusive h (by decide)
  have hswp : Body.isSwp (bodyOf w) = false := hits_exclusive h (by decide)
  have hmul : Body.isMul (bodyOf w) = false := hits_exclusive h (by decide)
  simp [classify_eq, hbx, hswp, hmul, h]

theorem classify_hdtReg {w : Word} (h : Body.isHdtReg (bodyOf w) = true)
    (hm : (Body.isSwp (bodyOf w) || Body.isMul (bodyOf w) || Body.isMull (bodyOf w)) = false) :
    classify w = some .hdtReg := by
  have hbx : Body.isBx (bodyOf w) = false := hits_exclusive h (by decide)
  simp only [Bool.or_eq_false_iff] at hm
  simp [classify_eq, hbx, hm, h]

theorem classify_hdtImm {w : Word} (h : Body.isHdtImm (bodyOf w) = true)
    (hm : (Body.isSwp (bodyOf w) || Body.isMul (bodyOf w) || Body.isMull (bodyOf w)) = false) :
    classify w = some .hdtImm := by
  have hbx : Body.isBx (bodyOf w) = false := hits_exclusive h (by decide)
  have hreg : Body.isHdtReg (bodyOf w) = false := hits_exclusive h (by decide)
  simp only [Bool.or_eq_false_iff] at hm
  simp [classify_eq, hbx, hm, hreg, h]

theorem classify_dp {w : Word} (h : Body.isDp (bodyOf w) = true) : classify w = some .dp := by
  simp only [Body.isDp, Bool.and_eq_true, Bool.not_eq_true', Bool.or_eq_false_iff] at h
  obtain ⟨hsp, hlow⟩ := h
  simp only [classify_eq, hlow, hsp, Bool.false_eq_true, if_false, if_true]

theorem classify_high {w : Word} (h : ¬(bit w 27 = false ∧ bit w 26 = false)) :
    classify w = some (highFormat w) := by
  have hsp : ¬Body.hits 0xC000000 0x0000000 (bodyOf w) = true := mt (isDpSpace_iff w).mp h
  have hlow := mt isDpSpace_of_low hsp
  simp only [Bool.not_eq_true, Bool.or_eq_false_iff] at hlow
  rw [classify_eq, if_neg hsp, firstHit_high w h]
  simp [hlow]

/-! ## The decoder -/

/-- A word the engine's list decodes for good: the unit's list has a say in a generic coprocessor word only. -/
theorem decodeWord_of_engine {w : Word} {i : Instr} (h : decodeEngine w = .ok i)
    (hg : ¬(i.isGeneric = true ∧ isVfpWord w = true)) : decodeWord w = .ok i := by
  simp [decodeWord, h, hg]

end Sys2Proof.Proofs
end

section
/-!
PROOFS. Data processing (30_encoding.md R84, R85, R105): the fault checks of the decoder as row tests, and the decoder
on encoded words.
-/

namespace Sys2Proof.Proofs

open Sys2Proof.Safety

/-! ## The decoder of the format -/

/-- The instruction of an opcode (30_encoding.md R84). -/
def dpInstr (c : Cond) (op : BitVec 4) (s : Bool) (rn rd : Reg) (o : Operand2) : Instr :=
  match op.toNat with
  | 0 => .and c s rn rd o
  | 1 => .eor c s rn rd o
  | 2 => .sub c s rn rd o
  | 3 => .rsb c s rn rd o
  | 4 => .add c s rn rd o
  | 5 => .adc c s rn rd o
  | 6 => .sbc c s rn rd o
  | 7 => .rsc c s rn rd o
  | 8 => .tst c rn o
  | 9 => .teq c rn o
  | 10 => .cmp c rn o
  | 11 => .cmn c rn o
  | 12 => .orr c s rn rd o
  | 13 => .mov c s rd o
  | 14 => .bic c s rn rd o
  | _ => .mvn c s rd o

theorem hits_psrTransfer (w : Word) : Body.hits 0x1900000 0x1000000 (bodyOf w) = true ↔
    (8 ≤ (bits w 21 4).toNat ∧ (bits w 21 4).toNat ≤ 11) ∧ bit w 20 = false := by
  have hop : ∀ op : BitVec 4, (8 ≤ op.toNat ∧ op.toNat ≤ 11) ↔ op.getLsbD 3 = true ∧ op.getLsbD 2 = false := by
    decide
  rw [hop, getLsbD_bits, getLsbD_bits, hits_bodyOf]
  simp only [Nat.forall_lt_succ_right]
  grind

theorem hits_flagsWithPcDest (w : Word) : Body.hits 0x010F000 0x010F000 (bodyOf w) = true ↔
    bit w 20 = true ∧ bits w 12 4 = 15 := by
  simp only [hits_bodyOf, bits_eq_iff, Nat.forall_lt_succ_right]
  grind

theorem hits_badShiftEncoding (w : Word) : Body.hits 0x2000090 0x0000090 (bodyOf w) = true ↔
    (bit w 25 = false ∧ bit w 4 = true) ∧ bit w 7 = true := by
  simp only [hits_bodyOf, Nat.forall_lt_succ_right]
  grind

/-- The decoder's fault checks are the tests of the table's fault rows, in their order (42_data_processing.md R180). -/
theorem decodeDp_eq (w : Word) : decodeDp w =
    if Body.hits 0x1900000 0x1000000 (bodyOf w) then .unimplPsrTransfer (condOf w) (bodyOf w)
    else if Body.hits 0x010F000 0x010F000 (bodyOf w) then .unimplFlagsWithPcDest (condOf w) (bodyOf w)
    else if Body.hits 0x2000090 0x0000090 (bodyOf w) then .unimplBadShiftEncoding (condOf w) (bodyOf w)
    else dpInstr (condOf w) (bits w 21 4) (bit w 20) (bits w 16 4) (bits w 12 4) (operand2Of w) := by
  simp only [hits_psrTransfer, hits_flagsWithPcDest, hits_badShiftEncoding]
  simp only [decodeDp, Bool.and_eq_true, decide_eq_true_eq, Bool.not_eq_true', beq_iff_eq]
  rfl

/-! ## The decoder on encoded words -/

theorem shiftType_ofCode_code (ty : ShiftType) : ShiftType.ofCode ty.code = ty := by cases ty <;> rfl

/-- A word of bits 27:26 = 00 that none of the format's fault rows but R184's takes is of the format. -/
theorem isDp_of_not_hits {b : Body} (hsp : Body.hits 0xC000000 0x0000000 b = true)
    (hpsr : ¬Body.hits 0x1900000 0x1000000 b = true) (hbad : ¬Body.hits 0x2000090 0x0000090 b = true) :
    Body.isDp b = true := by
  rw [Body.isDp, hsp, Bool.true_and, Bool.not_eq_true', ← Bool.not_eq_true]
  simp only [Bool.or_eq_true]
  rintro (((((h | h) | h) | h) | h) | h)
  · exact hpsr (hits_mono h (by decide) (by decide))
  all_goals exact hbad (hits_mono h (by decide) (by decide))

section EncodeDp

variable {c : Cond} {op : BitVec 4} {s : Bool} {rn rd : Reg} {o : Operand2}

theorem operand2Of_encodeDp : operand2Of (encodeDp c op s rn rd o) = o := by
  cases o <;> simp [operand2Of, encodeDp, withCond, encodeOperand2, putBit, shiftType_ofCode_code]

theorem encodeDp_fields : bits (encodeDp c op s rn rd o) 21 4 = op ∧ bit (encodeDp c op s rn rd o) 20 = s ∧
    bits (encodeDp c op s rn rd o) 16 4 = rn ∧ bits (encodeDp c op s rn rd o) 12 4 = rd := by
  cases o <;> simp [encodeDp, withCond, encodeOperand2, putBit]

theorem isDpSpace_encodeDp : Body.hits 0xC000000 0x0000000 (bodyOf (encodeDp c op s rn rd o)) = true := by
  rw [isDpSpace_iff]
  cases o <;> simp [encodeDp, withCond, encodeOperand2, putBit]

/-- An encoded operand2 that is no immediate has bit 4 or bit 7 clear. -/
theorem not_badShiftEncoding_encodeDp :
    ¬Body.hits 0x2000090 0x0000090 (bodyOf (encodeDp c op s rn rd o)) = true := by
  rw [hits_badShiftEncoding]
  cases o <;> simp [encodeDp, withCond, encodeOperand2, putBit]

/-- A word of the format with a meaning decodes to its opcode's instruction. -/
theorem decodeEngine_encodeDp (hpsr : 8 ≤ op.toNat ∧ op.toNat ≤ 11 → s = true) (hpc : (!(s && rd == 15)) = true) :
    decodeEngine (encodeDp c op s rn rd o) = .ok (dpInstr c op s rn rd o) := by
  obtain ⟨hop, hs, hrn, hrd⟩ := encodeDp_fields (c := c) (op := op) (s := s) (rn := rn) (rd := rd) (o := o)
  have hpsr' : ¬Body.hits 0x1900000 0x1000000 (bodyOf (encodeDp c op s rn rd o)) = true := by
    rw [hits_psrTransfer, hop, hs]
    exact fun ⟨hrange, hs⟩ => absurd ((hpsr hrange).symm.trans hs) nofun
  have hpc' : ¬Body.hits 0x010F000 0x010F000 (bodyOf (encodeDp c op s rn rd o)) = true := by
    rw [hits_flagsWithPcDest, hs, hrd]
    rintro ⟨rfl, rfl⟩
    cases hpc
  have hbad := not_badShiftEncoding_encodeDp (c := c) (op := op) (s := s) (rn := rn) (rd := rd) (o := o)
  rw [decodeEngine, classify_dp (isDp_of_not_hits isDpSpace_encodeDp hpsr' hbad), decodeDp_eq, if_neg hpsr',
    if_neg hpc', if_neg hbad, hop, hs, hrn, hrd, operand2Of_encodeDp, condOf_eq (encodeDp_cond c op s rn rd o)]

end EncodeDp

/-- A fault row's word keeps its body. -/
theorem decodeEngine_encodeBody_dp (c : Cond) {b : Body} (hb : Body.isDp b = true) :
    decodeEngine (encodeBody c b) = .ok (decodeDp (encodeBody c b)) := by
  rw [decodeEngine, classify_dp (by rwa [bodyOf_encodeBody])]

/-- Data processing: decode of encode at the engine's level. -/
theorem decodeEngine_encode_dataProcessing {i : Instr} (hwf : i.wf = true) (hdp : isDataProcessing i = true) :
    decodeEngine (encode i) = .ok i := by
  cases i <;> try cases hdp
  case unimplPsrTransfer c b =>
    simp only [Instr.wf, Body.isPsrTransfer, Bool.and_eq_true] at hwf
    obtain ⟨hb, hpsr⟩ := hwf
    rw [encode, decodeEngine_encodeBody_dp c hb, decodeDp_eq, bodyOf_encodeBody, condOf_encodeBody, if_pos hpsr]
  case unimplFlagsWithPcDest c b =>
    simp only [Instr.wf, Body.isFlagsWithPcDest, Bool.and_eq_true] at hwf
    obtain ⟨hb, hpc⟩ := hwf
    have hpsr : Body.hits 0x1900000 0x1000000 b = false := hits_exclusive hpc (by decide)
    rw [encode, decodeEngine_encodeBody_dp c hb, decodeDp_eq, bodyOf_encodeBody, condOf_encodeBody, hpsr,
      if_neg Bool.false_ne_true, if_pos hpc]
  case unimplBadShiftEncoding c b =>
    simp only [Instr.wf, Body.isBadShiftEncoding, Body.isPsrTransfer, Body.isFlagsWithPcDest, Bool.and_eq_true,
      Bool.not_eq_true', Bool.or_eq_false_iff] at hwf
    obtain ⟨⟨hb, hbad⟩, hpsr, hpc⟩ := hwf
    rw [hb, Bool.true_and] at hpsr hpc
    rw [encode, decodeEngine_encodeBody_dp c hb, decodeDp_eq, bodyOf_encodeBody, condOf_encodeBody, hpsr, hpc,
      if_neg Bool.false_ne_true, if_neg Bool.false_ne_true, if_pos hbad]
  case and | eor | sub | rsb | add | adc | sbc | rsc | orr | bic | mov | mvn =>
    exact decodeEngine_encodeDp (fun hrange => absurd hrange (by decide)) hwf
  case tst | teq | cmp | cmn => exact decodeEngine_encodeDp (fun _ => rfl) rfl

/-- Settles O4. -/
theorem dataProcessingRoundTrip : Obligations.DataProcessingRoundTrip := by
  intro i hwf hdp
  have h := decodeEngine_encode_dataProcessing hwf hdp
  have hg : i.isGeneric = false := by cases i <;> first | rfl | cases hdp
  exact ⟨h, decodeWord_of_engine h (by simp [hg])⟩

end Sys2Proof.Proofs
end

section
/-!
PROOFS. The engine's other formats (30_encoding.md R86 to R98): the fields of encoded words and the decoder on them.
-/

namespace Sys2Proof.Proofs

open Sys2Proof.Safety

/-! ## Formats with bits 27:26 = 00 -/

theorem isBx_encode (c : Cond) (rm : Reg) : Body.isBx (bodyOf (encode (.bx c rm))) = true := by
  simp only [Body.isBx, hits_bodyOf, Nat.forall_lt_succ_right]
  simp [encode, withCond]

theorem decodeEngine_encode_bx (c : Cond) (rm : Reg) : decodeEngine (encode (.bx c rm)) = .ok (.bx c rm) := by
  rw [decodeEngine, classify_bx (isBx_encode c rm), condOf_eq (c := c) (Laws.CondField.bx c rm)]
  simp [encode, withCond]

theorem encodeSwp_fields (c : Cond) (b : Bool) (rn rd rm : Reg) :
    let w := encodeSwp c b rn rd rm
    condOf w = c ∧ bit w 22 = b ∧ bits w 16 4 = rn ∧ bits w 12 4 = rd ∧ bits w 0 4 = rm := by
  refine ⟨condOf_eq (encodeSwp_cond ..), ?_⟩
  simp [encodeSwp, withCond, putBit]

theorem decodeEngine_encodeSwp (c : Cond) (b : Bool) (rn rd rm : Reg) :
    decodeEngine (encodeSwp c b rn rd rm) = .ok (decodeSwp (encodeSwp c b rn rd rm)) := by
  have h : Body.isSwp (bodyOf (encodeSwp c b rn rd rm)) = true := by
    rw [isSwp_iff]
    simp [encodeSwp, withCond, putBit]
  rw [decodeEngine, classify_swp h]

theorem encodeMul_fields (c : Cond) (op : BitVec 3) (s : Bool) (hi lo rs rm : Reg) :
    let w := encodeMul c op s hi lo rs rm
    condOf w = c ∧ bit w 23 = op[2] ∧ bit w 22 = op[1] ∧ bit w 21 = op[0] ∧ bit w 20 = s ∧ bits w 16 4 = hi ∧
      bits w 12 4 = lo ∧ bits w 8 4 = rs ∧ bits w 0 4 = rm := by
  refine ⟨condOf_eq (encodeMul_cond ..), ?_⟩
  simp [encodeMul, withCond, putBit]

/-- Bits 23:22 = 01 is no multiply. -/
theorem decodeEngine_encodeMul {op : BitVec 3} (hop : op[2] = true ∨ op[1] = false) (c : Cond) (s : Bool)
    (hi lo rs rm : Reg) :
    decodeEngine (encodeMul c op s hi lo rs rm) = .ok (decodeMul (encodeMul c op s hi lo rs rm)) := by
  rw [decodeEngine]
  cases h2 : op[2] with
  | true =>
    have h : Body.isMull (bodyOf (encodeMul c op s hi lo rs rm)) = true := by
      rw [isMull_iff]
      simp [encodeMul, withCond, putBit, h2]
    rw [classify_mull h]
  | false =>
    have h1 : op[1] = false := hop.resolve_left (by simp [h2])
    have h : Body.isMul (bodyOf (encodeMul c op s hi lo rs rm)) = true := by
      rw [isMul_iff]
      simp [encodeMul, withCond, putBit, h1, h2]
    rw [classify_mul h]

theorem encodeHdt_fields (c : Cond) (l : Bool) (sh : BitVec 2) (ix : Index) (rn rd : Reg) (off : HdtOffset) :
    let w := encodeHdt c l sh ix rn rd off
    condOf w = c ∧ bit w 20 = l ∧ bit w 6 = sh[1] ∧ bit w 5 = sh[0] ∧ indexOf w = ix ∧ bits w 16 4 = rn ∧
      bits w 12 4 = rd := by
  refine ⟨condOf_eq (encodeHdt_cond ..), ?_⟩
  cases off <;> simp [encodeHdt, withCond, putBit, encodeIndex, encodeHdtOffset, indexOf]

theorem decodeEngine_encodeHdt {sh : BitVec 2} (hsh : sh[1] = true ∨ sh[0] = true) (c : Cond) (l : Bool) (ix : Index)
    (rn rd : Reg) (off : HdtOffset) :
    decodeEngine (encodeHdt c l sh ix rn rd off) = .ok (decodeHdt (encodeHdt c l sh ix rn rd off) off) := by
  obtain ⟨-, -, h6, h5, -⟩ := encodeHdt_fields c l sh ix rn rd off
  have hm := not_multiply_of_sh (w := encodeHdt c l sh ix rn rd off) (by rwa [h6, h5])
  cases off with
  | reg rm =>
    have h : Body.isHdtReg (bodyOf (encodeHdt c l sh ix rn rd (.reg rm))) = true := by
      rw [isHdtReg_iff]
      simp [encodeHdt, withCond, putBit, encodeIndex, encodeHdtOffset]
    rw [decodeEngine, classify_hdtReg h hm]
    simp [encodeHdt, withCond, putBit, encodeIndex, encodeHdtOffset]
  | imm imm8 =>
    have himm : imm8.extractLsb' 4 4 ++ imm8.extractLsb' 0 4 = imm8 := BitVec.extractLsb'_append_extractLsb'
    have h : Body.isHdtImm (bodyOf (encodeHdt c l sh ix rn rd (.imm imm8))) = true := by
      rw [isHdtImm_iff]
      simp [encodeHdt, withCond, putBit, encodeIndex, encodeHdtOffset]
    rw [decodeEngine, classify_hdtImm h hm]
    simp [encodeHdt, withCond, putBit, encodeIndex, encodeHdtOffset, himm]

/-! ## Formats with other bits 27:26 -/

theorem decodeEngine_encode_und (c : Cond) (hi : BitVec 20) (lo : BitVec 4) :
    decodeEngine (encode (.und c hi lo)) = .ok (.und c hi lo) := by
  have h : classify (encode (.und c hi lo)) = some .und := by
    rw [classify_high] <;> simp [highFormat, encode, withCond, putBit]
  rw [decodeEngine, h, condOf_eq (c := c) (Laws.CondField.und c hi lo)]
  simp [encode, withCond, putBit]

theorem encodeSdt_fields (c : Cond) (l b : Bool) (ix : Index) (rn rd : Reg) (off : SdtOffset) :
    let w := encodeSdt c l b ix rn rd off
    condOf w = c ∧ bit w 20 = l ∧ bit w 22 = b ∧ indexOf w = ix ∧ bits w 16 4 = rn ∧ bits w 12 4 = rd ∧
      (if bit w 25 then SdtOffset.reg (bits w 0 4) (ShiftType.ofCode (bits w 5 2)) (bits w 7 5)
        else .imm (bits w 0 12)) = off := by
  refine ⟨condOf_eq (encodeSdt_cond ..), ?_⟩
  cases off <;> simp [encodeSdt, withCond, putBit, encodeIndex, encodeSdtOffset, indexOf, shiftType_ofCode_code]

theorem decodeEngine_encodeSdt (c : Cond) (l b : Bool) (ix : Index) (rn rd : Reg) (off : SdtOffset) :
    decodeEngine (encodeSdt c l b ix rn rd off) = .ok (decodeSdt (encodeSdt c l b ix rn rd off)) := by
  have h : classify (encodeSdt c l b ix rn rd off) = some .sdt := by
    rw [classify_high] <;> cases off <;>
      simp [highFormat, encodeSdt, withCond, putBit, encodeIndex, encodeSdtOffset]
  rw [decodeEngine, h]

theorem encodeBdt_fields (c : Cond) (p u l w : Bool) (rn : Reg) (list : BitVec 16) :
    let x := encodeBdt c p u l w rn list
    condOf x = c ∧ bit x 24 = p ∧ bit x 23 = u ∧ bit x 22 = false ∧ bit x 21 = w ∧ bit x 20 = l ∧ bits x 16 4 = rn ∧
      bits x 0 16 = list := by
  refine ⟨condOf_eq (encodeBdt_cond ..), ?_⟩
  simp [encodeBdt, withCond, putBit]

theorem decodeEngine_encodeBdt (c : Cond) (p u l w : Bool) (rn : Reg) (list : BitVec 16) :
    decodeEngine (encodeBdt c p u l w rn list) = .ok (decodeBdt (encodeBdt c p u l w rn list)) := by
  have h : classify (encodeBdt c p u l w rn list) = some .bdt := by
    rw [classify_high] <;> simp [highFormat, encodeBdt, withCond, putBit]
  rw [decodeEngine, h]

theorem decodeEngine_encodeB (c : Cond) (l : Bool) (imm24 : BitVec 24) :
    decodeEngine (encodeB c l imm24) = .ok (if l then .bl c imm24 else .b c imm24) := by
  have h : classify (encodeB c l imm24) = some .b := by
    rw [classify_high] <;> simp [highFormat, encodeB, withCond, putBit]
  rw [decodeEngine, h, decodeB, condOf_eq (encodeB_cond c l imm24)]
  simp [encodeB, withCond, putBit]

theorem decodeEngine_encodeCdt (c : Cond) (l p u n w : Bool) (rn crd cpNum : BitVec 4) (offset8 : BitVec 8) :
    decodeEngine (encodeCdt c l p u n w rn crd cpNum offset8) =
      .ok (if l then .ldc c p u n w rn crd cpNum offset8 else .stc c p u n w rn crd cpNum offset8) := by
  have h : classify (encodeCdt c l p u n w rn crd cpNum offset8) = some .cdt := by
    rw [classify_high] <;> simp [highFormat, encodeCdt, withCond, putBit]
  rw [decodeEngine, h, decodeCdt, condOf_eq (encodeCdt_cond ..)]
  simp [encodeCdt, withCond, putBit]

theorem decodeEngine_encodeCdo (c : Cond) (cpOpc crn crd cpNum : BitVec 4) (cp : BitVec 3) (crm : BitVec 4) :
    decodeEngine (encodeCdo c cpOpc crn crd cpNum cp crm) = .ok (.cdp c cpOpc crn crd cpNum cp crm) := by
  have h : classify (encodeCdo c cpOpc crn crd cpNum cp crm) = some .cdo := by
    rw [classify_high] <;> simp [highFormat, encodeCdo, withCond]
  rw [decodeEngine, h, decodeCdo, condOf_eq (encodeCdo_cond ..)]
  simp [encodeCdo, withCond]

theorem decodeEngine_encodeCrt (c : Cond) (l : Bool) (cpOpc : BitVec 3) (crn rd cpNum : BitVec 4) (cp : BitVec 3)
    (crm : BitVec 4) :
    decodeEngine (encodeCrt c l cpOpc crn rd cpNum cp crm) =
      .ok (if l then .mrc c cpOpc crn rd cpNum cp crm else .mcr c cpOpc crn rd cpNum cp crm) := by
  have h : classify (encodeCrt c l cpOpc crn rd cpNum cp crm) = some .crt := by
    rw [classify_high] <;> simp [highFormat, encodeCrt, withCond, putBit]
  rw [decodeEngine, h, decodeCrt, condOf_eq (encodeCrt_cond ..)]
  simp [encodeCrt, withCond, putBit]

theorem decodeEngine_encode_swi (c : Cond) (comment : BitVec 24) :
    decodeEngine (encode (.swi c comment)) = .ok (.swi c comment) := by
  have h : classify (encode (.swi c comment)) = some .swi := by
    rw [classify_high] <;> simp [highFormat, encode, withCond]
  rw [decodeEngine, h, condOf_eq (c := c) (Laws.CondField.swi c comment)]
  simp [encode, withCond]

/-! ## The fault rows -/

/-- The halfword formats turn `S:H = 00` away (30_encoding.md R105). -/
theorem decodeHdt_SH00 {w : Word} (off : HdtOffset) (h6 : bit w 6 = false) (h5 : bit w 5 = false) :
    decodeHdt w off = .unimplHalfwordSH00 (condOf w) (bodyOf w) := by
  simp [decodeHdt, h6, h5]

/-- The halfword formats turn `L = 0`, `S = 1` away (30_encoding.md R105). -/
theorem decodeHdt_signedStore {w : Word} (off : HdtOffset) (h20 : bit w 20 = false) (h6 : bit w 6 = true) :
    decodeHdt w off = .unimplHalfwordSignedStore (condOf w) (bodyOf w) := by
  simp [decodeHdt, h20, h6]

theorem decodeEngine_halfwordSH00 {w : Word} (h : Body.isHalfwordSH00 (bodyOf w) = true) :
    decodeEngine w = .ok (.unimplHalfwordSH00 (condOf w) (bodyOf w)) := by
  rw [Body.isHalfwordSH00, Bool.and_eq_true, Bool.or_eq_true, Bool.not_eq_true'] at h
  obtain ⟨h | h, hm⟩ := h
  · rw [decodeEngine, classify_hdtReg (hits_mono h (by decide) (by decide)) hm]
    exact congrArg _ (decodeHdt_SH00 _ (bit_of_hits h 6 (by decide) rfl) (bit_of_hits h 5 (by decide) rfl))
  · rw [decodeEngine, classify_hdtImm (hits_mono h (by decide) (by decide)) hm]
    exact congrArg _ (decodeHdt_SH00 _ (bit_of_hits h 6 (by decide) rfl) (bit_of_hits h 5 (by decide) rfl))

theorem decodeEngine_halfwordSignedStore {w : Word} (h : Body.isHalfwordSignedStore (bodyOf w) = true) :
    decodeEngine w = .ok (.unimplHalfwordSignedStore (condOf w) (bodyOf w)) := by
  rw [Body.isHalfwordSignedStore, Bool.or_eq_true] at h
  obtain h | h := h
  · have h6 : bit w 6 = true := bit_of_hits h 6 (by decide) rfl
    rw [decodeEngine, classify_hdtReg (hits_mono h (by decide) (by decide)) (not_multiply_of_sh (.inl h6))]
    exact congrArg _ (decodeHdt_signedStore _ (bit_of_hits h 20 (by decide) rfl) h6)
  · have h6 : bit w 6 = true := bit_of_hits h 6 (by decide) rfl
    rw [decodeEngine, classify_hdtImm (hits_mono h (by decide) (by decide)) (not_multiply_of_sh (.inl h6))]
    exact congrArg _ (decodeHdt_signedStore _ (bit_of_hits h 20 (by decide) rfl) h6)

theorem decodeEngine_blockTransferSBit {w : Word} (h : Body.isBlockTransferSBit (bodyOf w) = true) :
    decodeEngine w = .ok (.unimplBlockTransferSBit (condOf w) (bodyOf w)) := by
  have h27 : bit w 27 = true := bit_of_hits h 27 (by decide) rfl
  have h26 : bit w 26 = false := bit_of_hits h 26 (by decide) rfl
  have h25 : bit w 25 = false := bit_of_hits h 25 (by decide) rfl
  have h22 : bit w 22 = true := bit_of_hits h 22 (by decide) rfl
  have hc : classify w = some .bdt := by
    rw [classify_high] <;> simp [highFormat, h27, h26, h25]
  rw [decodeEngine, hc]
  simp [decodeBdt, h22]

/-! ## Every row -/

/-- The engine's formats but data processing: decode of encode at the engine's level. -/
theorem decodeEngine_encode {i : Instr} (hwf : i.wf = true) (hl : i.level = .engine)
    (hdp : isDataProcessing i = false) : decodeEngine (encode i) = .ok i := by
  cases i <;> first | exact Level.noConfusion hl | exact Bool.noConfusion hdp | skip
  case bx c rm => exact decodeEngine_encode_bx c rm
  case swp | swpb => exact (decodeEngine_encodeSwp ..).trans (by simp [decodeSwp, encodeSwp_fields])
  case mul | mla | umull | umlal | smull | smlal =>
    exact (decodeEngine_encodeMul (by decide) ..).trans (by simp [decodeMul, encodeMul_fields])
  case unimplHalfwordSH00 c b =>
    simpa [encode] using decodeEngine_halfwordSH00 (w := encodeBody c b) (by rwa [bodyOf_encodeBody])
  case unimplHalfwordSignedStore c b =>
    simpa [encode] using decodeEngine_halfwordSignedStore (w := encodeBody c b) (by rwa [bodyOf_encodeBody])
  case ldrh | strh | ldrsb | ldrsh =>
    exact (decodeEngine_encodeHdt (by decide) ..).trans (by simp [decodeHdt, encodeHdt_fields])
  case und c hi lo => exact decodeEngine_encode_und c hi lo
  case ldr | str | ldrb | strb =>
    exact (decodeEngine_encodeSdt ..).trans (by simp [decodeSdt, encodeSdt_fields])
  case unimplBlockTransferSBit c b =>
    simpa [encode] using decodeEngine_blockTransferSBit (w := encodeBody c b) (by rwa [bodyOf_encodeBody])
  case ldmia | ldmib | ldmda | ldmdb | stmia | stmib | stmda | stmdb =>
    exact (decodeEngine_encodeBdt ..).trans (by simp [decodeBdt, encodeBdt_fields])
  case b | bl => exact decodeEngine_encodeB ..
  case ldc | stc => exact decodeEngine_encodeCdt ..
  case cdp => exact decodeEngine_encodeCdo ..
  case mcr | mrc => exact decodeEngine_encodeCrt ..
  case swi c comment => exact decodeEngine_encode_swi c comment

/-- Settles O5. -/
theorem engineRoundTrip : Obligations.EngineRoundTrip := by
  intro i hwf hl hdp
  have h := decodeEngine_encode hwf hl hdp
  exact ⟨h, decodeWord_of_engine h⟩

end Sys2Proof.Proofs
end

section
/-!
PROOFS. Every word decodes (30_encoding.md R83, R110): to a well-formed instruction with the word's condition, at either
level.
-/

namespace Sys2Proof.Proofs

/-- What a word has to decode to: an instruction some word encodes, with this word's condition. -/
def IsRowOf (w : Word) (i : Instr) : Prop := i.wf = true ∧ i.cond = condOf w

/-- A row of the engine's list that the unit's list has no say in. -/
def IsOwnRowOf (w : Word) (i : Instr) : Prop := IsRowOf w i ∧ i.isGeneric = false

/-- Two row tests together are one of both masks. -/
theorem hits_join {m p m' p' b : Body} (h : Body.hits m p b = true) (h' : Body.hits m' p' b = true) :
    Body.hits (m ||| m') (p ||| p') b = true := by
  rw [Body.hits, beq_iff_eq] at h h' ⊢
  rw [BitVec.and_or_distrib_left, h, h']

/-! ## The engine's formats -/

theorem decodeSwp_isOwnRowOf (w : Word) : IsOwnRowOf w (decodeSwp w) := by
  unfold decodeSwp
  split <;> exact ⟨⟨rfl, rfl⟩, rfl⟩

theorem decodeMul_isOwnRowOf (w : Word) : IsOwnRowOf w (decodeMul w) := by
  unfold decodeMul
  split
  · split <;> exact ⟨⟨rfl, rfl⟩, rfl⟩
  · split <;> exact ⟨⟨rfl, rfl⟩, rfl⟩

theorem decodeHdt_isOwnRowOf {w : Word} (off : HdtOffset)
    (h : Body.isHdtReg (bodyOf w) = true ∨ Body.isHdtImm (bodyOf w) = true)
    (hm : (Body.isSwp (bodyOf w) || Body.isMul (bodyOf w) || Body.isMull (bodyOf w)) = false) :
    IsOwnRowOf w (decodeHdt w off) := by
  unfold decodeHdt
  split
  case h_1 h6 h5 =>
    have hsh : Body.hits 0x0000060 0x0000000 (bodyOf w) = true := by
      simp only [hits_bodyOf, Nat.forall_lt_succ_right]
      simp [h6, h5]
    refine ⟨⟨?_, rfl⟩, rfl⟩
    rw [Instr.wf, Body.isHalfwordSH00, hm, Bool.not_false, Bool.and_true, Bool.or_eq_true]
    exact h.imp (fun h => hits_join h hsh) fun h => hits_join h hsh
  case h_2 h20 h6 =>
    have hsh : Body.hits 0x0100040 0x0000040 (bodyOf w) = true := by
      simp only [hits_bodyOf, Nat.forall_lt_succ_right]
      simp [h20, h6]
    refine ⟨⟨?_, rfl⟩, rfl⟩
    rw [Instr.wf, Body.isHalfwordSignedStore, Bool.or_eq_true]
    exact h.imp (fun h => hits_join h hsh) fun h => hits_join h hsh
  all_goals exact ⟨⟨rfl, rfl⟩, rfl⟩

theorem dpInstr_isOwnRowOf {w : Word} {op : BitVec 4} {s : Bool} {rn rd : Reg} {o : Operand2}
    (h : ¬(s = true ∧ rd = 15)) : IsOwnRowOf w (dpInstr (condOf w) op s rn rd o) := by
  have hwf : (!(s && rd == 15)) = true := by
    rwa [Bool.not_eq_true', ← Bool.not_eq_true, Bool.and_eq_true, beq_iff_eq]
  unfold dpInstr
  split <;> first | exact ⟨⟨hwf, rfl⟩, rfl⟩ | exact ⟨⟨rfl, rfl⟩, rfl⟩

theorem decodeDp_isOwnRowOf {w : Word} (h : Body.isDp (bodyOf w) = true) : IsOwnRowOf w (decodeDp w) := by
  rw [decodeDp_eq]
  split
  case isTrue hpsr => exact ⟨⟨by simp only [Instr.wf, Body.isPsrTransfer, h, hpsr, Bool.and_self], rfl⟩, rfl⟩
  case isFalse hpsr =>
    split
    case isTrue hpc => exact ⟨⟨by simp only [Instr.wf, Body.isFlagsWithPcDest, h, hpc, Bool.and_self], rfl⟩, rfl⟩
    case isFalse hpc =>
      split
      case isTrue hbad =>
        refine ⟨⟨?_, rfl⟩, rfl⟩
        simp only [Instr.wf, Body.isBadShiftEncoding, Body.isPsrTransfer, Body.isFlagsWithPcDest, h, hpsr, hpc, hbad,
          Bool.and_false, Bool.or_self, Bool.not_false, Bool.and_self]
      case isFalse => exact dpInstr_isOwnRowOf (mt (hits_flagsWithPcDest w).mpr hpc)

theorem decodeSdt_isOwnRowOf (w : Word) : IsOwnRowOf w (decodeSdt w) := by
  unfold decodeSdt
  split <;> split <;> exact ⟨⟨rfl, rfl⟩, rfl⟩

theorem decodeBdt_isOwnRowOf {w : Word} (h : Body.hits 0xE000000 0x8000000 (bodyOf w) = true) :
    IsOwnRowOf w (decodeBdt w) := by
  unfold decodeBdt
  split
  case isTrue h22 =>
    have hs : Body.hits 0x0400000 0x0400000 (bodyOf w) = true := by
      simp only [hits_bodyOf, Nat.forall_lt_succ_right]
      simp [h22]
    exact ⟨⟨hits_join h hs, rfl⟩, rfl⟩
  case isFalse => split <;> exact ⟨⟨rfl, rfl⟩, rfl⟩

theorem decodeB_isOwnRowOf (w : Word) : IsOwnRowOf w (decodeB w) := by
  unfold decodeB
  split <;> exact ⟨⟨rfl, rfl⟩, rfl⟩

theorem decodeCdt_isRowOf (w : Word) : IsRowOf w (decodeCdt w) := by
  unfold decodeCdt
  split <;> exact ⟨rfl, rfl⟩

theorem decodeCrt_isRowOf (w : Word) : IsRowOf w (decodeCrt w) := by
  unfold decodeCrt
  split <;> exact ⟨rfl, rfl⟩

/-! ## The format of a word -/

theorem exists_classify (w : Word) : ∃ f, classify w = some f := by
  by_cases h : bit w 27 = false ∧ bit w 26 = false
  · have hsp := (isDpSpace_iff w).mpr h
    rw [classify_eq, if_pos hsp]
    split_ifs <;> exact ⟨_, rfl⟩
  · exact ⟨_, classify_high h⟩

theorem hits_of_firstHit {b : Body} {f : Format} {rows : List (Format × Body × Body)} (h : firstHit b rows = some f) :
    ∃ m p, (f, m, p) ∈ rows ∧ Body.hits m p b = true := by
  induction rows with
  | nil => cases h
  | cons r rows ih =>
    rw [firstHit] at h
    split at h
    case isTrue hr => exact ⟨r.2.1, r.2.2, by rw [← Option.some.inj h]; exact List.mem_cons_self, hr⟩
    case isFalse =>
      obtain ⟨m, p, hmem, hb⟩ := ih h
      exact ⟨m, p, List.mem_cons_of_mem r hmem, hb⟩

/-- A word of a format meets the format's own row test. -/
theorem hits_of_classify {w : Word} {f : Format} {m p : Body} (h : classify w = some f)
    (hrow : ∀ r ∈ bodyTable, r.1 = f → r = (f, m, p)) : Body.hits m p (bodyOf w) = true := by
  obtain ⟨m', p', hmem, hb⟩ := hits_of_firstHit ((classify_eq_firstHit w).symm.trans h)
  have := hrow _ hmem rfl
  simp only [Prod.mk.injEq, true_and] at this
  obtain ⟨rfl, rfl⟩ := this
  exact hb

/-- A word of another format is no swap or multiply. -/
theorem not_multiply_of_classify {w : Word} {f : Format} (h : classify w = some f)
    (hf : f ≠ .swp ∧ f ≠ .mul ∧ f ≠ .mull) :
    (Body.isSwp (bodyOf w) || Body.isMul (bodyOf w) || Body.isMull (bodyOf w)) = false := by
  obtain ⟨hswp, hmul, hmull⟩ := hf
  rw [Bool.eq_false_iff]
  intro hm
  simp only [Bool.or_eq_true] at hm
  rcases hm with (hm | hm) | hm
  · exact hswp (Option.some.inj (h.symm.trans (classify_swp hm)))
  · exact hmul (Option.some.inj (h.symm.trans (classify_mul hm)))
  · exact hmull (Option.some.inj (h.symm.trans (classify_mull hm)))

theorem isDp_of_classify {w : Word} (h : classify w = some .dp) : Body.isDp (bodyOf w) = true := by
  have hm := not_multiply_of_classify h (by decide)
  have hsp := hits_of_classify (m := 0xC000000) (p := 0) h (by decide)
  rw [Body.isDp, hsp, Bool.true_and, Bool.not_eq_true', ← Bool.not_eq_true]
  simp only [Bool.or_eq_true]
  rintro (((((hb | hb) | hb) | hb) | hb) | hb)
  · cases h.symm.trans (classify_bx hb)
  · cases h.symm.trans (classify_swp hb)
  · cases h.symm.trans (classify_mul hb)
  · cases h.symm.trans (classify_mull hb)
  · cases h.symm.trans (classify_hdtReg hb hm)
  · cases h.symm.trans (classify_hdtImm hb hm)

/-- The coprocessor formats, whose words the unit's list decodes too (30_encoding.md R110). -/
def IsCoprocessorWord (w : Word) : Prop :=
  Body.isCdt (bodyOf w) = true ∨ Body.isCdo (bodyOf w) = true ∨ Body.isCrt (bodyOf w) = true

/-- The engine's row of a word: its own, or a generic one of a coprocessor format. -/
theorem decodeEngine_isRowOf (w : Word) :
    ∃ i, decodeEngine w = .ok i ∧ (IsOwnRowOf w i ∨ IsRowOf w i ∧ IsCoprocessorWord w) := by
  obtain ⟨f, hf⟩ := exists_classify w
  rw [decodeEngine, hf]
  cases f
  case bx => exact ⟨_, rfl, .inl ⟨⟨rfl, rfl⟩, rfl⟩⟩
  case swp => exact ⟨_, rfl, .inl (decodeSwp_isOwnRowOf w)⟩
  case mul => exact ⟨_, rfl, .inl (decodeMul_isOwnRowOf w)⟩
  case mull => exact ⟨_, rfl, .inl (decodeMul_isOwnRowOf w)⟩
  case hdtReg =>
    have h := hits_of_classify (m := 0xE400F90) (p := 0x0000090) hf (by decide)
    exact ⟨_, rfl, .inl (decodeHdt_isOwnRowOf _ (.inl h) (not_multiply_of_classify hf (by decide)))⟩
  case hdtImm =>
    have h := hits_of_classify (m := 0xE400090) (p := 0x0400090) hf (by decide)
    exact ⟨_, rfl, .inl (decodeHdt_isOwnRowOf _ (.inr h) (not_multiply_of_classify hf (by decide)))⟩
  case dp => exact ⟨_, rfl, .inl (decodeDp_isOwnRowOf (isDp_of_classify hf))⟩
  case und => exact ⟨_, rfl, .inl ⟨⟨rfl, rfl⟩, rfl⟩⟩
  case sdt => exact ⟨_, rfl, .inl (decodeSdt_isOwnRowOf w)⟩
  case bdt => exact ⟨_, rfl, .inl (decodeBdt_isOwnRowOf (hits_of_classify hf (by decide)))⟩
  case b => exact ⟨_, rfl, .inl (decodeB_isOwnRowOf w)⟩
  case cdt => exact ⟨_, rfl, .inr ⟨decodeCdt_isRowOf w, .inl (hits_of_classify hf (by decide))⟩⟩
  case cdo => exact ⟨_, rfl, .inr ⟨⟨rfl, rfl⟩, .inr (.inl (hits_of_classify hf (by decide)))⟩⟩
  case crt => exact ⟨_, rfl, .inr ⟨decodeCrt_isRowOf w, .inr (.inr (hits_of_classify hf (by decide)))⟩⟩
  case swi => exact ⟨_, rfl, .inl ⟨⟨rfl, rfl⟩, rfl⟩⟩

end Sys2Proof.Proofs
end

section
/-!
PROOFS. The VFP unit's rows (49_vfp.md R361, R364, R370, R380, R406, R416 to R419): what the unit decodes a coprocessor
word to is well formed and has the word's condition.
-/

namespace Sys2Proof.Proofs

/-! ## The fields of a body -/

theorem field_bodyOf (w : Word) (lo n : Nat) (h : lo + n ≤ 28) : Body.field (bodyOf w) lo n = bits w lo n := by
  apply BitVec.eq_of_getLsbD_eq
  intro i hi
  rw [Body.field, BitVec.getLsbD_extractLsb', getLsbD_bodyOf, getLsbD_bits, decide_eq_true hi,
    decide_eq_true (show lo + i < 28 by omega), Bool.true_and]

theorem getLsbD_bodyOf_of_lt (w : Word) {i : Nat} (h : i < 28) : (bodyOf w).getLsbD i = bit w i := by
  rw [getLsbD_bodyOf, decide_eq_true h, Bool.true_and]

theorem isSingle_bodyOf (w : Word) : Body.isSingle (bodyOf w) = (cpNumOf w == 10) := by
  rw [Body.isSingle, field_bodyOf _ _ _ (by decide), cpNumOf]

theorem isDouble_bodyOf (w : Word) : Body.isDouble (bodyOf w) = (cpNumOf w == 11) := by
  rw [Body.isDouble, field_bodyOf _ _ _ (by decide), cpNumOf]

theorem isVfpWord_eq (w : Word) : isVfpWord w = (Body.isSingle (bodyOf w) || Body.isDouble (bodyOf w)) := by
  rw [isVfpWord, isSingle_bodyOf, isDouble_bodyOf]

theorem cpNumOf_eq_of_not_double {w : Word} (hv : isVfpWord w = true) (hd : ¬(cpNumOf w == 11) = true) :
    cpNumOf w = 10 := by
  rw [isVfpWord, Bool.or_eq_true] at hv
  exact eq_of_beq (hv.resolve_right hd)

theorem pqrs_bodyOf (w : Word) : Body.pqrs (bodyOf w) = pqrsOf w := by
  simp only [Body.pqrs, pqrsOf, field_bodyOf, Nat.reduceAdd, Nat.reduceLeDiff]

theorem ext_bodyOf (w : Word) : Body.ext (bodyOf w) = extOf w := by
  simp only [Body.ext, extOf, field_bodyOf, Nat.reduceAdd, Nat.reduceLeDiff]

section

variable {w : Word}

/-! ## Data operations -/

theorem unimplVfpOpcode_isRowOf (hv : isVfpWord w = true)
    (h : (Body.isCdo (bodyOf w) && Body.isBadDataOpcode (bodyOf w)
      || Body.isCrt (bodyOf w) && Body.isBadTransferOpcode (bodyOf w)) = true) :
    IsRowOf w (.unimplVfpOpcode (condOf w) (bodyOf w)) := by
  refine ⟨?_, rfl⟩
  rw [Instr.wf, Body.isVfpOpcode, ← isVfpWord_eq, hv, h]
  rfl

/-- A data operation with an operation, but perhaps a double operand whose extension bit is 1. -/
theorem dataRow_isRowOf {i : Instr} {p : Prop} [Decidable p] (hcdo : Body.isCdo (bodyOf w) = true)
    (hv : isVfpWord w = true) (hop : Body.isBadDataOpcode (bodyOf w) = false)
    (hx : p → Body.isBadDoubleOperand (bodyOf w) = true) (hi : IsRowOf w i) :
    IsRowOf w (if p then .unimplVfpRegister (condOf w) (bodyOf w) else i) := by
  split
  case isTrue hp =>
    refine ⟨?_, rfl⟩
    rw [isVfpWord_eq] at hv
    simp only [Instr.wf, Body.isVfpRegister, hcdo, hv, hop, hx hp, Bool.not_false, Bool.and_self, Bool.true_or]
  case isFalse => exact hi

theorem isBadDataOpcode_of_ext (hp : (pqrsOf w).toNat = 15) : Body.isBadDataOpcode (bodyOf w) =
    !([0, 1, 2, 3, 8, 9, 10, 11, 15, 16, 17, 24, 25, 26, 27].contains (extOf w).toNat) := by
  have hp' : pqrsOf w = 15 := BitVec.eq_of_toNat_eq hp
  rw [Body.isBadDataOpcode, pqrs_bodyOf, ext_bodyOf, hp']
  simp

/-- An extension operation whose number is none of the unit's. -/
theorem unimplExt_isRowOf (hcdo : Body.isCdo (bodyOf w) = true) (hv : isVfpWord w = true)
    (hp : (pqrsOf w).toNat = 15)
    (hne : (extOf w).toNat ∉ [0, 1, 2, 3, 8, 9, 10, 11, 15, 16, 17, 24, 25, 26, 27]) :
    IsRowOf w (.unimplVfpOpcode (condOf w) (bodyOf w)) := by
  refine unimplVfpOpcode_isRowOf hv ?_
  rw [hcdo, isBadDataOpcode_of_ext hp, List.contains_eq_mem, decide_eq_false hne]
  rfl

theorem isBadDoubleOperand_of_ext (hp : (pqrsOf w).toNat = 15) : Body.isBadDoubleOperand (bodyOf w) =
    if (extOf w).toNat ≤ 9 then cpNumOf w == 11 && (bit w 22 || bit w 5)
    else if (extOf w).toNat ≤ 11 then cpNumOf w == 11 && bit w 22
    else if (extOf w).toNat = 15 then (if cpNumOf w == 11 then bit w 5 else bit w 22)
    else if (extOf w).toNat ≤ 17 then cpNumOf w == 11 && bit w 22
    else cpNumOf w == 11 && bit w 5 := by
  have hp' : pqrsOf w = 15 := BitVec.eq_of_toNat_eq hp
  simp only [Body.isBadDoubleOperand, pqrs_bodyOf, ext_bodyOf, hp', isDouble_bodyOf]
  rw [getLsbD_bodyOf_of_lt w (by decide), getLsbD_bodyOf_of_lt w (by decide)]
  simp

theorem decodeExtSingle_isRowOf (hcdo : Body.isCdo (bodyOf w) = true) (hs : cpNumOf w = 10)
    (hp : (pqrsOf w).toNat = 15) : IsRowOf w (decodeExtSingle w) := by
  have hv : isVfpWord w = true := by rw [isVfpWord, hs]; rfl
  have hop := isBadDataOpcode_of_ext hp
  have hx := isBadDoubleOperand_of_ext hp
  unfold decodeExtSingle
  split
  case h_9 he =>
    exact dataRow_isRowOf hcdo hv (by rw [hop, he]; rfl) (fun h22 => by rw [hx, he, hs]; exact h22) ⟨rfl, rfl⟩
  case h_16 => exact unimplExt_isRowOf hcdo hv hp (by simp only [List.mem_cons, List.not_mem_nil]; tauto)
  all_goals exact ⟨rfl, rfl⟩

theorem decodeExtDouble_isRowOf (hcdo : Body.isCdo (bodyOf w) = true) (hd : cpNumOf w = 11)
    (hp : (pqrsOf w).toNat = 15) : IsRowOf w (decodeExtDouble w) := by
  have hv : isVfpWord w = true := by rw [isVfpWord, hd]; rfl
  have hop := isBadDataOpcode_of_ext hp
  have hx := isBadDoubleOperand_of_ext hp
  unfold decodeExtDouble
  split
  case h_16 => exact unimplExt_isRowOf hcdo hv hp (by simp only [List.mem_cons, List.not_mem_nil]; tauto)
  all_goals
    rename_i he
    exact dataRow_isRowOf hcdo hv (by rw [hop, he]; rfl) (fun hbit => by rw [hx, he, hd]; exact hbit) ⟨rfl, rfl⟩

theorem isBadDataOpcode_of_le (hp : (pqrsOf w).toNat ≤ 8) : Body.isBadDataOpcode (bodyOf w) = false := by
  have hrange : ∀ p : BitVec 4, p.toNat ≤ 8 → (decide (9 ≤ p.toNat) && decide (p.toNat ≤ 14)) = false ∧
      (p == 15) = false := by decide
  obtain ⟨h, h15⟩ := hrange _ hp
  rw [Body.isBadDataOpcode, pqrs_bodyOf, h, h15]
  rfl

theorem isBadDoubleOperand_of_le (hp : (pqrsOf w).toNat ≤ 8) : Body.isBadDoubleOperand (bodyOf w) =
    (cpNumOf w == 11 && (bit w 22 || bit w 7 || bit w 5)) := by
  have hne : ∀ p : BitVec 4, p.toNat ≤ 8 → (p == 15) = false := by decide
  simp only [Body.isBadDoubleOperand, pqrs_bodyOf, hne _ hp, isDouble_bodyOf]
  rw [getLsbD_bodyOf_of_lt w (by decide), getLsbD_bodyOf_of_lt w (by decide), getLsbD_bodyOf_of_lt w (by decide)]
  rfl

theorem decodeDataOperation_isRowOf (hcdo : Body.isCdo (bodyOf w) = true) (hv : isVfpWord w = true) :
    IsRowOf w (decodeDataOperation w) := by
  unfold decodeDataOperation
  split
  case h_10 hp =>
    refine iteInduction (motive := IsRowOf w) (fun hd => ?_) fun hd => ?_
    · exact decodeExtDouble_isRowOf hcdo (eq_of_beq hd) hp
    · exact decodeExtSingle_isRowOf hcdo (cpNumOf_eq_of_not_double hv hd) hp
  case h_11 =>
    refine unimplVfpOpcode_isRowOf hv ?_
    rw [hcdo, Bool.true_and, Bool.or_eq_true, Body.isBadDataOpcode, pqrs_bodyOf]
    left
    have := (pqrsOf w).isLt
    rw [Bool.or_eq_true, Bool.and_eq_true, decide_eq_true_eq, decide_eq_true_eq]
    left
    simp only [imp_false] at *
    omega
  all_goals
    rename_i hp
    have hle : (pqrsOf w).toNat ≤ 8 := hp.le.trans (by decide)
    refine iteInduction (motive := IsRowOf w) (fun hd => ?_) fun _ => ⟨rfl, rfl⟩
    refine dataRow_isRowOf hcdo hv (isBadDataOpcode_of_le hle) (fun hx => ?_) ⟨rfl, rfl⟩
    rw [isBadDoubleOperand_of_le hle, Bool.and_eq_true]
    exact ⟨hd, hx⟩

/-! ## Register transfers -/

theorem isBadTransferOpcode_bodyOf (w : Word) : Body.isBadTransferOpcode (bodyOf w) =
    ((cpNumOf w == 10 && !([0, 7].contains (bits w 21 3).toNat))
      || (cpNumOf w == 11 && !([0, 1].contains (bits w 21 3).toNat))) := by
  rw [Body.isBadTransferOpcode, isSingle_bodyOf, isDouble_bodyOf, field_bodyOf _ _ _ (by decide)]

/-- A transfer of a double register, but perhaps with its extension bit 1. -/
theorem transferRow_isRowOf {i : Instr} (hcrt : Body.isCrt (bodyOf w) = true) (hd : (cpNumOf w == 11) = true)
    (hop : [0, 1].contains (bits w 21 3).toNat = true) (hi : IsRowOf w i) :
    IsRowOf w (if bit w 7 then .unimplVfpRegister (condOf w) (bodyOf w) else i) := by
  split
  case isTrue h7 =>
    have hs : (cpNumOf w == 10) = false := by rw [eq_of_beq hd]; rfl
    refine ⟨?_, rfl⟩
    rw [Instr.wf, Body.isVfpRegister, isBadTransferOpcode_bodyOf, isDouble_bodyOf, getLsbD_bodyOf_of_lt w (by decide)]
    simp only [hcrt, hd, hop, hs, h7, Bool.false_and, Bool.not_true, Bool.and_false, Bool.or_self, Bool.not_false,
      Bool.and_self, Bool.or_true, Bool.true_or]
  case isFalse => exact hi

theorem decodeRegisterTransfer_isRowOf (hcrt : Body.isCrt (bodyOf w) = true) (hv : isVfpWord w = true) :
    IsRowOf w (decodeRegisterTransfer w) := by
  unfold decodeRegisterTransfer
  split
  case h_1 | h_2 | h_7 => exact ⟨rfl, rfl⟩
  case h_3 hd hop _ | h_4 hd hop _ | h_5 hd hop _ | h_6 hd hop _ =>
    exact transferRow_isRowOf hcrt hd (by rw [hop]; rfl) ⟨rfl, rfl⟩
  case h_8 =>
    refine iteInduction (motive := IsRowOf w) (fun _ => ⟨rfl, rfl⟩) fun hstat => ⟨?_, rfl⟩
    exact (Bool.not_eq_true' _).mpr (Bool.eq_false_iff.mpr hstat)
  case h_9 =>
    refine unimplVfpOpcode_isRowOf hv ?_
    rw [hcrt, Bool.true_and, Bool.or_eq_true, isBadTransferOpcode_bodyOf]
    right
    rw [isVfpWord, Bool.or_eq_true] at hv
    cases h20 : bit w 20 <;> rcases hv with hs | hd <;> simp_all

/-! ## Loads and stores -/

/-- `(P, U, W)` as a mode (49_vfp.md R418). -/
def modeOf (p u wb : Bool) : Option DtMode :=
  match p, u, wb with
  | true,  _,     false => some .offset
  | false, true,  false => some .ia
  | false, true,  true  => some .iaw
  | true,  false, true  => some .dbw
  | _,     _,     _     => none

theorem mode_bodyOf (w : Word) : Body.mode (bodyOf w) = modeOf (bit w 24) (bit w 23) (bit w 21) := by
  rw [Body.mode, getLsbD_bodyOf_of_lt w (by decide), getLsbD_bodyOf_of_lt w (by decide),
    getLsbD_bodyOf_of_lt w (by decide)]
  rfl

theorem isTwoRegister_iff (w : Word) : Body.isTwoRegister (bodyOf w) = true ↔
    bits w 21 7 = 0x62 ∧ bits w 6 2 = 0 ∧ bit w 4 = true := by
  simp only [Body.isTwoRegister, hits_bodyOf, bits_eq_iff, Nat.forall_lt_succ_right]
  grind

/-- A transfer in a mode, of a double register whose extension bit is 1. -/
theorem unimplVfpRegister_isRowOf_cdt (hcdt : Body.isCdt (bodyOf w) = true) (hd : (cpNumOf w == 11) = true)
    (hm : (modeOf (bit w 24) (bit w 23) (bit w 21)).isSome = true) (h22 : bit w 22 = true) :
    IsRowOf w (.unimplVfpRegister (condOf w) (bodyOf w)) := by
  refine ⟨?_, rfl⟩
  rw [Instr.wf, Body.isVfpRegister, hcdt, isDouble_bodyOf, hd, mode_bodyOf, hm,
    getLsbD_bodyOf_of_lt w (i := 22) (by decide), h22]
  simp only [Bool.and_self, Bool.or_true]

/-- A transfer in none of the modes, and no two-register one. -/
theorem unimplVfpAddressingMode_isRowOf (hcdt : Body.isCdt (bodyOf w) = true) (hv : isVfpWord w = true)
    (hm : (modeOf (bit w 24) (bit w 23) (bit w 21)).isNone = true)
    (htwo : ¬(bits w 21 7 = 0x62 ∧ bits w 6 2 = 0 ∧ bit w 4 = true)) :
    IsRowOf w (.unimplVfpAddressingMode (condOf w) (bodyOf w)) := by
  have htwo' : Body.isTwoRegister (bodyOf w) = false := Bool.eq_false_iff.mpr (mt (isTwoRegister_iff w).mp htwo)
  refine ⟨?_, rfl⟩
  rw [Instr.wf, Body.isVfpAddressingMode, hcdt, ← isVfpWord_eq, hv, mode_bodyOf, hm, htwo']
  rfl

theorem sm_eq_31 (h : sm w = 31) : bits w 0 4 = 15 ∧ bit w 5 = true := by
  have h15 : bits w 0 4 = (sm w).extractLsb' 1 4 := BitVec.extractLsb'_append_eq_left.symm
  have h5 : bits w 5 1 = (sm w).extractLsb' 0 1 := BitVec.extractLsb'_append_eq_right.symm
  rw [h] at h15 h5
  exact ⟨h15, bits_eq_iff.mp h5 0 (by decide)⟩

theorem decodeTwoRegister_isRowOf (hcdt : Body.isCdt (bodyOf w) = true) (hv : isVfpWord w = true)
    (h24 : bit w 24 = false) (h23 : bit w 23 = false) (h22 : bit w 22 = true) (h21 : bit w 21 = false) :
    IsRowOf w (decodeTwoRegister w) := by
  have h27 : bit w 27 = true := bit_of_hits hcdt 27 (by decide) rfl
  have h26 : bit w 26 = true := bit_of_hits hcdt 26 (by decide) rfl
  have h25 : bit w 25 = false := bit_of_hits hcdt 25 (by decide) rfl
  refine iteInduction (motive := IsRowOf w) (fun hbad => ?_) fun hgood => ?_
  · refine unimplVfpAddressingMode_isRowOf hcdt hv (by rw [h24, h23, h21]; rfl) ?_
    rintro ⟨-, h6, h4⟩
    simp [h6, h4] at hbad
  · have htwo : Body.isTwoRegister (bodyOf w) = true := by
      rw [isTwoRegister_iff]
      simp only [Bool.or_eq_true, bne_iff_ne, Bool.not_eq_true', not_or, not_not, Bool.not_eq_false] at hgood
      refine ⟨?_, hgood⟩
      simp only [bits_eq_iff, Nat.forall_lt_succ_right]
      simp [*]
    refine iteInduction (motive := IsRowOf w) (fun hd => ?_) fun hd => ?_
    · refine iteInduction (motive := IsRowOf w) (fun h5 => ⟨?_, rfl⟩) fun _ => ?_
      · rw [Instr.wf, Body.isVfpRegister, htwo, isDouble_bodyOf, hd, getLsbD_bodyOf_of_lt w (i := 5) (by decide), h5]
        simp only [Bool.and_self, Bool.or_true, Bool.true_or]
      · split <;> exact ⟨rfl, rfl⟩
    · have hs := cpNumOf_eq_of_not_double hv hd
      refine iteInduction (motive := IsRowOf w) (fun hm => ⟨?_, rfl⟩) fun hm => ?_
      · obtain ⟨h15, h5⟩ := sm_eq_31 (eq_of_beq hm)
        rw [Instr.wf, Body.isVfpRegister, htwo, isSingle_bodyOf, hs, getLsbD_bodyOf_of_lt w (i := 5) (by decide), h5,
          field_bodyOf _ _ _ (by decide), h15]
        simp
      · have hne : (sm w != 31) = true := bne_iff_ne.mpr (mt beq_iff_eq.mpr hm)
        split <;> exact ⟨hne, rfl⟩

theorem decodeOffsetTransfer_isRowOf (hcdt : Body.isCdt (bodyOf w) = true) (h24 : bit w 24 = true)
    (h21 : bit w 21 = false) : IsRowOf w (decodeOffsetTransfer w) := by
  have hm : (modeOf (bit w 24) (bit w 23) (bit w 21)).isSome = true := by rw [h24, h21]; rfl
  unfold decodeOffsetTransfer
  split
  case isTrue hd =>
    split
    case isTrue h22 => exact unimplVfpRegister_isRowOf_cdt hcdt hd hm h22
    case isFalse => split <;> exact ⟨rfl, rfl⟩
  case isFalse => split <;> exact ⟨rfl, rfl⟩

/-- The modes of a multiple transfer. -/
def isMultipleMode (m : Option DtMode) : Bool := m.isSome && m != some .offset

theorem unimplVfpRegisterList_isRowOf (hcdt : Body.isCdt (bodyOf w) = true)
    (hm : isMultipleMode (modeOf (bit w 24) (bit w 23) (bit w 21)) = true)
    (hreg : (cpNumOf w == 10 || (cpNumOf w == 11 && !bit w 22)) = true) (hoff : bits w 0 8 = 0) :
    IsRowOf w (.unimplVfpRegisterList (condOf w) (bodyOf w)) := by
  refine ⟨?_, rfl⟩
  rw [isMultipleMode] at hm
  rw [Instr.wf, Body.isVfpRegisterList, hcdt, isSingle_bodyOf, isDouble_bodyOf, getLsbD_bodyOf_of_lt w (by decide), hreg,
    mode_bodyOf, hm, field_bodyOf _ _ _ (by decide), hoff]
  rfl

theorem bits_zero_eight (h0 : bit w 0 = false) (h1 : bits w 1 7 = 0) : bits w 0 8 = 0 := by
  simp only [bits_eq_iff, Nat.forall_lt_succ_right] at h1 ⊢
  grind

theorem decodeMultipleTransfer_isRowOf (hcdt : Body.isCdt (bodyOf w) = true) (hv : isVfpWord w = true) (before : Bool)
    (hm : isMultipleMode (modeOf (bit w 24) (bit w 23) (bit w 21)) = true) :
    IsRowOf w (decodeMultipleTransfer w before) := by
  refine iteInduction (motive := IsRowOf w) (fun hd => ?_) fun hd => ?_
  · refine iteInduction (motive := IsRowOf w) (fun h22 => ?_) fun h22 => ?_
    · rw [isMultipleMode, Bool.and_eq_true] at hm
      obtain ⟨hmode, -⟩ := hm
      exact unimplVfpRegister_isRowOf_cdt hcdt hd hmode h22
    refine iteInduction (motive := IsRowOf w) (fun h0 => ⟨?_, rfl⟩) fun h0 => ?_
    · rw [isMultipleMode] at hm
      rw [Instr.wf, Body.isVfpAddressingMode, hcdt, ← isVfpWord_eq, hv, isDouble_bodyOf, hd, mode_bodyOf, hm,
        getLsbD_bodyOf_of_lt w (i := 22) (by decide), getLsbD_bodyOf_of_lt w (i := 0) (by decide), h0]
      simp [h22]
    refine iteInduction (motive := IsRowOf w) (fun hoff => ?_) fun hoff => ?_
    · exact unimplVfpRegisterList_isRowOf hcdt hm (by simp [eq_of_beq hd, h22]) (eq_of_beq hoff)
    · have hn : (bits w 1 7 != 0) = true := by
        rw [bne_iff_ne]
        exact fun h1 => hoff (beq_iff_eq.mpr (bits_zero_eight (Bool.eq_false_iff.mpr h0) h1))
      split <;> exact ⟨hn, rfl⟩
  · have hs := cpNumOf_eq_of_not_double hv hd
    refine iteInduction (motive := IsRowOf w) (fun hoff => ?_) fun hoff => ?_
    · exact unimplVfpRegisterList_isRowOf hcdt hm (by simp [hs]) (eq_of_beq hoff)
    · have hn : (bits w 0 8 != 0) = true := bne_iff_ne.mpr (mt beq_iff_eq.mpr hoff)
      split <;> exact ⟨hn, rfl⟩

theorem decodeDataTransfer_isRowOf (hcdt : Body.isCdt (bodyOf w) = true) (hv : isVfpWord w = true) :
    IsRowOf w (decodeDataTransfer w) := by
  unfold decodeDataTransfer
  split
  case h_1 h24 h23 h21 =>
    refine iteInduction (motive := IsRowOf w) (fun h22 => ?_) fun h22 => ?_
    · exact decodeTwoRegister_isRowOf hcdt hv h24 h23 h22 h21
    · refine unimplVfpAddressingMode_isRowOf hcdt hv (by rw [h24, h23, h21]; rfl) fun ⟨htwo, _⟩ => h22 ?_
      exact bits_eq_iff.mp htwo 1 (by decide)
  case h_2 h24 h21 => exact decodeOffsetTransfer_isRowOf hcdt h24 h21
  case h_3 h24 h23 =>
    refine decodeMultipleTransfer_isRowOf hcdt hv false ?_
    rw [h24, h23]; cases bit w 21 <;> rfl
  case h_4 h24 h23 h21 => exact decodeMultipleTransfer_isRowOf hcdt hv true (by rw [h24, h23, h21]; rfl)
  case h_5 h24 h23 h21 =>
    refine unimplVfpAddressingMode_isRowOf hcdt hv (by rw [h24, h23, h21]; rfl) fun ⟨htwo, _⟩ => ?_
    exact absurd ((bits_eq_iff.mp htwo 0 (by decide)).symm.trans h21) nofun
  case h_6 h24 h23 h21 =>
    refine unimplVfpAddressingMode_isRowOf hcdt hv (by rw [h24, h23, h21]; rfl) fun ⟨htwo, _⟩ => ?_
    exact absurd ((bits_eq_iff.mp htwo 0 (by decide)).symm.trans h21) nofun

end

/-! ## Every word -/

/-- The unit's row of a word with one of its numbers. -/
theorem decodeVfp_isRowOf {w : Word} (hw : IsCoprocessorWord w) (hv : isVfpWord w = true) :
    IsRowOf w (decodeVfp w) := by
  rcases hw with h | h | h
  · have h25 : bit w 25 = false := bit_of_hits h 25 (by decide) rfl
    rw [decodeVfp, hv, h25]
    exact decodeDataTransfer_isRowOf h hv
  · have h25 : bit w 25 = true := bit_of_hits h 25 (by decide) rfl
    have h4 : bit w 4 = false := bit_of_hits h 4 (by decide) rfl
    rw [decodeVfp, hv, h25, h4]
    exact decodeDataOperation_isRowOf h hv
  · have h25 : bit w 25 = true := bit_of_hits h 25 (by decide) rfl
    have h4 : bit w 4 = true := bit_of_hits h 4 (by decide) rfl
    rw [decodeVfp, hv, h25, h4]
    exact decodeRegisterTransfer_isRowOf h hv

/-- Settles O2, from the engine's row of a word and, in the coprocessor formats, the unit's. -/
theorem everyWordDecodes : Obligations.EveryWordDecodes := by
  intro w
  refine ⟨exists_classify w, ?_⟩
  obtain ⟨i, hi, ⟨hrow, hg⟩ | ⟨hrow, hw⟩⟩ := decodeEngine_isRowOf w
  · exact ⟨i, decodeWord_of_engine hi (by simp [hg]), hrow⟩
  · rw [decodeWord, hi]
    refine ⟨_, rfl, iteInduction (motive := IsRowOf w) (fun hv => ?_) fun _ => hrow⟩
    obtain ⟨-, hvfp⟩ := (Bool.and_eq_true _ _).mp hv
    exact decodeVfp_isRowOf hw hvfp

end Sys2Proof.Proofs
end

section
/-!
PROOFS. Single instructions of the engine: known words, the undefined format, the data-processing immediate and
faults, and the branches.
-/

namespace Sys2Proof.Proofs

open Sys2Proof.Machine Sys2Proof.Safety

/-- Settles O1: each word is one run of the decoder. -/
theorem knownWordsDecode : Obligations.KnownWordsDecode := by
  refine ⟨?_, ?_, ?_, ?_, ?_, ?_, ?_, ?_, ?_, ?_, ?_, ?_, ?_, ?_, ?_⟩ <;> rfl

/-! ## The undefined format -/

/-- Bits 27:25 = 011 with bit 4 = 1 (30_encoding.md R92). -/
theorem decodeEngine_undefined {w : Word} (h : bits w 25 3 = 3) (h4 : bit w 4 = true) :
    decodeEngine w = .ok (.und (condOf w) (bits w 5 20) (bits w 0 4)) := by
  have h25 : bit w 25 = true := bits_eq_iff.mp h 0 (by decide)
  have h26 : bit w 26 = true := bits_eq_iff.mp h 1 (by decide)
  have h27 : bit w 27 = false := bits_eq_iff.mp h 2 (by decide)
  have hc : classify w = some .und := by
    rw [classify_high] <;> simp [highFormat, h25, h26, h27, h4]
  rw [decodeEngine, hc]

/-- Settles O13: the word decodes to the undefined format's row, whose execution asks for no condition. -/
theorem undefinedFormatFaults : Obligations.UndefinedFormatFaults := by
  refine ⟨fun _ _ _ _ => rfl, fun s w hfetch hmem h h4 => ?_⟩
  rw [step_allowed hfetch, hmem, BitVec.ofNat_toNat, BitVec.setWidth_eq, runWord,
    decodeWord_of_engine (decodeEngine_undefined h h4) (by simp [Instr.isGeneric])]
  rfl

/-! ## Data processing -/

theorem immRotate_eq (imm8 : BitVec 8) (rot : BitVec 4) :
    immRotate imm8 rot = (imm8.setWidth 32).rotateRight (2 * rot.toNat) := by
  have hlt : 2 * rot.toNat < 32 := by have := rot.isLt; omega
  rw [immRotate, BitVec.rotateRight_def, Nat.mod_eq_of_lt hlt]
  split
  · simp [*]
  · rfl

/-- Settles O27: the value is the byte rotated, and the carry-out its top bit unless the field is 0. -/
theorem immediateIsRotated : Obligations.ImmediateIsRotated := by
  intro s rot imm8
  rw [operand2, shiftImmediate, immRotate_eq]
  refine ⟨rfl, ?_⟩
  dsimp only
  rw [BitVec.msb_eq_getLsbD_last]
  split
  case isTrue h => rw [h]; rfl
  case isFalse h => rw [bne_iff_ne.mpr h, Bool.true_and]

/-- Settles O33: the fault rows, and what `S = 1` with a destination of 15 does in each opcode that writes one. -/
theorem dataProcessingFaults : Obligations.DataProcessingFaults := by
  intro c b rn o s hc
  refine ⟨whenCond_passes (unimplemented .psrTransfer) hc, whenCond_passes (unimplemented .flagsWithPcDest) hc,
    whenCond_passes (unimplemented .badShiftEncoding) hc, ?_⟩
  simp only [List.forall_mem_cons, exec, execAnd, execEor, execSub, execRsb, execAdd, execAdc, execSbc, execRsc,
    execOrr, execMov, execBic, execMvn, dpWrite_pc hc, true_and]
  exact fun _ h => absurd h List.not_mem_nil

/-! ## What a write of a register leaves alone -/

section Frame

variable {rs : List Reg} {s t : State}

theorem onlyRegs_refl (rs : List Reg) (s : State) : OnlyRegs rs s s :=
  ⟨⟨fun _ _ => rfl, fun _ => rfl, ⟨fun _ _ => rfl, rfl⟩, rfl, rfl, rfl, rfl, rfl⟩, rfl⟩

theorem regsBut_setReg (h : RegsBut rs s t) {r : Reg} (hr : r ∈ rs) (v : Word) : RegsBut rs s (t.setReg r v) := by
  intro q hq
  have hne : r ≠ q := fun heq => hq (heq ▸ hr)
  rw [State.reg_setReg, if_neg hne, h q hq]

theorem onlyRegs_setReg (h : OnlyRegs rs s t) {r : Reg} (hr : r ∈ rs) (v : Word) : OnlyRegs rs s (t.setReg r v) := by
  obtain ⟨⟨hregs, hmem, hvfp, hcontrol⟩, hcpsr⟩ := h
  exact ⟨⟨regsBut_setReg hregs hr v, hmem, hvfp, hcontrol⟩, hcpsr⟩

end Frame

/-! ## Branches -/

/-- The target as an exact sum (30_encoding.md R103, 46_branch.md R300). -/
theorem branchTarget_eq (s : State) (imm24 : BitVec 24) :
    branchTarget s imm24 = BitVec.ofInt 32 ((s.pc.toNat : Int) + s.setup.off.branch + 4 * imm24.toInt) := by
  rw [BitVec.ofInt_add, BitVec.ofInt_add, BitVec.ofInt_mul, BitVec.ofInt_natCast, BitVec.ofInt_natCast,
    ← BitVec.signExtend, BitVec.ofNat_toNat, BitVec.setWidth_eq, branchTarget, branchOffset,
    BitVec.shiftLeft_eq_mul_twoPow, BitVec.mul_comm]
  rfl

section Branch

variable {c : Cond} {s : State}

theorem exec_b (hc : Passes c s) (imm24 : BitVec 24) :
    exec (.b c imm24) s = .next (s.setReg 15 (branchTarget s imm24)) :=
  whenCond_passes (fun s => .next (s.setReg 15 (branchTarget s imm24))) hc

theorem exec_bl (hc : Passes c s) (imm24 : BitVec 24) : exec (.bl c imm24) s =
    .next ((s.setReg 14 (s.pc + BitVec.ofNat 32 s.setup.off.link)).setReg 15 (branchTarget s imm24)) :=
  whenCond_passes (fun s => .next ((s.setReg 14 (s.pc + BitVec.ofNat 32 s.setup.off.link)).setReg 15
    (branchTarget s imm24))) hc

theorem exec_bx (hc : Passes c s) (rm : Reg) : exec (.bx c rm) s = .next (s.setReg 15 (s.rd rm s.setup.off.bx)) :=
  whenCond_passes (fun s => .next (s.setReg 15 (s.rd rm s.setup.off.bx))) hc

end Branch

/-- Settles O44: the registers each branch writes, and nothing else. -/
theorem branchResults : Obligations.BranchResults := by
  intro c imm24 rm s hc
  dsimp only
  rw [← branchTarget_eq]
  refine ⟨⟨_, exec_b hc imm24, s.pc_setReg_pc _, ?_⟩, ⟨_, exec_bl hc imm24, State.pc_setReg_pc _ _, by simp, ?_⟩,
    ⟨_, exec_bx hc rm, s.pc_setReg_pc _, ?_⟩⟩
  · exact onlyRegs_setReg (onlyRegs_refl _ s) (by decide) _
  · exact onlyRegs_setReg (onlyRegs_setReg (onlyRegs_refl _ s) (by decide) _) (by decide) _
  · exact onlyRegs_setReg (onlyRegs_refl _ s) (by decide) _

end Sys2Proof.Proofs
end

section
/-!
PROOFS. Single, halfword and signed transfers (44_single_transfer.md R240 to R256): the offsets as numbers, and what a
load and a store leave.
-/

namespace Sys2Proof.Proofs

open Sys2Proof.Machine Sys2Proof.Safety

/-! ## The offsets -/

theorem shiftRrx_value (c : Bool) (v : Word) :
    (shiftRrx c v).value = (if c then 0x80000000 else 0) ||| v >>> 1 := by
  have hlt : v.toNat / 2 < 2 ^ 31 := by have := v.isLt; omega
  apply BitVec.eq_of_toNat_eq
  rw [shiftRrx, BitVec.toNat_append, BitVec.extractLsb'_toNat, BitVec.toNat_or, BitVec.toNat_ushiftRight,
    Nat.shiftRight_one, Nat.mod_eq_of_lt hlt]
  cases c <;> rfl

theorem shiftLsl_toNat (v : Word) {amt : Nat} (h : amt < 32) :
    (shiftLsl v amt).value.toNat = v.toNat * 2 ^ amt % 2 ^ 32 := by
  unfold shiftLsl
  split
  case isTrue h0 => rw [h0, Nat.pow_zero, Nat.mul_one, Nat.mod_eq_of_lt v.isLt]
  case isFalse => exact (BitVec.toNat_shiftLeft ..).trans (by rw [Nat.shiftLeft_eq])

theorem shiftLsr_toNat (v : Word) {amt : Nat} (h : amt < 32) : (shiftLsr v amt).value.toNat = v.toNat / 2 ^ amt := by
  unfold shiftLsr
  split
  case isTrue h0 => rw [h0, Nat.pow_zero, Nat.div_one]
  case isFalse => exact (BitVec.toNat_ushiftRight ..).trans (Nat.shiftRight_eq_div_pow ..)

theorem shiftAsr_toInt (c : Bool) (v : Word) {amt : Nat} (h0 : amt ≠ 0) (h : amt < 32) :
    (shiftAsr c v amt).value.toInt = v.toInt / 2 ^ amt := by
  rw [shiftAsr, if_neg h0, if_pos h, BitVec.toInt_sshiftRight, Int.shiftRight_eq_div_pow,
    Nat.cast_pow, Nat.cast_ofNat]

theorem shiftRor_eq_rotateRight (c : Bool) (v : Word) {amt : Nat} (h0 : amt ≠ 0) (h : amt < 32) (enc : ShiftEnc) :
    (shiftRor c v amt enc).value = v.rotateRight amt := by
  simp only [shiftRor, Nat.mod_eq_of_lt h, if_neg h0, BitVec.rotateRight_def]

theorem shiftAsr_zero (c : Bool) (v : Word) : shiftAsr c v 0 = shiftRrx c v := rfl

theorem shiftRor_zero_imm (c : Bool) (v : Word) : shiftRor c v 0 .imm = shiftRrx c v := rfl

theorem transferOffsets (s : State) : TransferOffsets s := by
  refine ⟨fun v => ?_, fun immH immL => ?_, fun rm => rfl, fun rm amt => ?_⟩
  · exact BitVec.toNat_setWidth_of_le (by decide)
  · rw [hdtOffset, BitVec.toNat_setWidth_of_le (by decide), BitVec.toNat_append,
      ← Nat.shiftLeft_add_eq_or_of_lt immL.isLt, Nat.shiftLeft_eq, Nat.mul_comm]
  · have hlt : amt.toNat < 32 := amt.isLt
    have hne : amt ≠ 0 → amt.toNat ≠ 0 := fun h h0 => h (BitVec.eq_of_toNat_eq h0)
    refine ⟨shiftLsl_toNat _ hlt, shiftLsr_toNat _ hlt, fun h => ⟨?_, ?_⟩, ?_⟩
    · exact shiftAsr_toInt _ _ (hne h) hlt
    · exact shiftRor_eq_rotateRight _ _ (hne h) hlt _
    · rintro rfl
      exact ⟨shiftRrx_value _ _, shiftRrx_value _ _⟩

/-! ## Loads -/

section

variable {i : Instr} {s : State} {a : Address} {n : Nat} {rn rd : Reg}

/-- A load that the port lets through: the value in `rd`, which wins over the write-back (44_single_transfer.md R245). -/
theorem loadReg_effect {value : Nat → Word} (hi : exec i s = loadReg a n rn rd value s)
    (h : Allowed s a.addr n .read) : LoadEffect i s a rn rd (value (s.mem.readN a.addr.toNat n)) := by
  refine ⟨_, hi.trans (loadReg_next.mpr ⟨h, rfl⟩), by simp, fun hwb hne => ?_, ?_⟩
  · simp [hwb, hne.symm]
  · cases hwb : a.wb with
    | false =>
      rw [State.writeBack, hwb]
      exact onlyRegs_setReg (onlyRegs_refl _ s) (by simp) _
    | true =>
      rw [State.writeBack, hwb]
      exact onlyRegs_setReg (onlyRegs_setReg (onlyRegs_refl _ s) (by simp) _) (by simp) _

theorem zeroExtended_readN_toNat (m : Memory) (x : Nat) (hn : n ≤ 4) :
    (zeroExtended (m.readN x n)).toNat = m.readN x n := by
  have hlt : m.readN x n < 2 ^ 32 := (m.readN_lt x n).trans_le (Nat.pow_le_pow_right (by decide) hn : _ ≤ 256 ^ 4)
  rw [zeroExtended, BitVec.toNat_ofNat, Nat.mod_eq_of_lt hlt]

theorem onlyStores_setReg {rs : List Reg} {x : Word} {t : State} (h : OnlyStores x n rs s t) {r : Reg} (hr : r ∈ rs)
    (v : Word) : OnlyStores x n rs s (t.setReg r v) := by
  obtain ⟨hregs, hrest⟩ := h
  exact ⟨regsBut_setReg hregs hr v, hrest⟩

theorem onlyStores_writeN (hs : Invariant s) (x : Word) (n v : Nat) (rs : List Reg) :
    OnlyStores x n rs s { s with mem := s.mem.writeN x.toNat n v } := by
  obtain ⟨hwf, -⟩ := hs
  refine ⟨fun _ _ => rfl, fun b hb => ?_, ⟨fun _ _ => rfl, rfl⟩, ⟨rfl, rfl, rfl, rfl, rfl⟩, rfl⟩
  exact Memory.read_writeN_of_outside _ _ _ _ hwf hb

/-- A store that the port lets through: the low bytes of the value, then the write-back. -/
theorem storeReg_effect {v : Word} (hs : Invariant s) (hi : exec i s = storeReg a n rn v s)
    (h : Allowed s a.addr n .write) : StoreEffect i s a n rn v := by
  refine ⟨_, hi.trans (storeReg_next.mpr ⟨h, rfl⟩), ?_, fun hwb => by simp [hwb], ?_⟩
  · obtain ⟨hwf, -⟩ := hs
    rw [State.writeBack_mem, Memory.readN_writeN _ _ _ hwf]
  · cases hwb : a.wb with
    | false =>
      rw [State.writeBack, hwb]
      exact onlyStores_writeN hs _ _ _ _
    | true =>
      rw [State.writeBack, hwb]
      exact onlyStores_setReg (onlyStores_writeN hs _ _ _ _) (by simp) _

end

/-! ## The instructions as loads and stores -/

section

variable {c : Cond} {s : State} (hc : Passes c s) (ix : Index) (rn rd : Reg) (off : SdtOffset) (hoff : HdtOffset)
include hc

theorem exec_ldr : exec (.ldr c ix rn rd off) s = loadReg (sdtAddress s ix rn off) 4 rn rd zeroExtended s :=
  whenCond_passes (fun s => loadReg (sdtAddress s ix rn off) 4 rn rd zeroExtended s) hc

theorem exec_ldrb : exec (.ldrb c ix rn rd off) s = loadReg (sdtAddress s ix rn off) 1 rn rd zeroExtended s :=
  whenCond_passes (fun s => loadReg (sdtAddress s ix rn off) 1 rn rd zeroExtended s) hc

theorem exec_ldrh : exec (.ldrh c ix rn rd hoff) s = loadReg (hdtAddress s ix rn hoff) 2 rn rd zeroExtended s :=
  whenCond_passes (fun s => loadReg (hdtAddress s ix rn hoff) 2 rn rd zeroExtended s) hc

theorem exec_ldrsb : exec (.ldrsb c ix rn rd hoff) s = loadReg (hdtAddress s ix rn hoff) 1 rn rd signExtended8 s :=
  whenCond_passes (fun s => loadReg (hdtAddress s ix rn hoff) 1 rn rd signExtended8 s) hc

theorem exec_ldrsh : exec (.ldrsh c ix rn rd hoff) s = loadReg (hdtAddress s ix rn hoff) 2 rn rd signExtended16 s :=
  whenCond_passes (fun s => loadReg (hdtAddress s ix rn hoff) 2 rn rd signExtended16 s) hc

theorem exec_str : exec (.str c ix rn rd off) s =
    storeReg (sdtAddress s ix rn off) 4 rn (s.rd rd s.setup.off.sdtStore) s :=
  whenCond_passes (fun s => storeReg (sdtAddress s ix rn off) 4 rn (s.rd rd s.setup.off.sdtStore) s) hc

theorem exec_strb : exec (.strb c ix rn rd off) s =
    storeReg (sdtAddress s ix rn off) 1 rn (s.rd rd s.setup.off.sdtStore) s :=
  whenCond_passes (fun s => storeReg (sdtAddress s ix rn off) 1 rn (s.rd rd s.setup.off.sdtStore) s) hc

theorem exec_strh : exec (.strh c ix rn rd hoff) s =
    storeReg (hdtAddress s ix rn hoff) 2 rn (s.rd rd s.setup.off.hdtStore) s :=
  whenCond_passes (fun s => storeReg (hdtAddress s ix rn hoff) 2 rn (s.rd rd s.setup.off.hdtStore) s) hc

end

/-- The write-back bit of an address (44_single_transfer.md R245, R256). -/
theorem addressOf_wb (ix : Index) (base offset : Word) :
    (addressOf ix base offset).wb = true ↔ ix.p = false ∨ ix.w = true := by
  simp [addressOf]

/-- Settles O36: each load is `loadReg` at its address, of its width and extension. -/
theorem loadResults : Obligations.LoadResults := by
  intro c ix rn rd off hoff s hc
  refine ⟨transferOffsets s, ⟨rfl, rfl, addressOf_wb ..⟩, ⟨rfl, rfl, addressOf_wb ..⟩, fun h => ?_, fun h => ?_,
    fun h => ?_, fun h => ?_, fun h => ?_⟩
  · exact ⟨_, zeroExtended_readN_toNat _ _ (by decide), loadReg_effect (exec_ldr hc ix rn rd off) h⟩
  · exact ⟨_, zeroExtended_readN_toNat _ _ (by decide), loadReg_effect (exec_ldrb hc ix rn rd off) h⟩
  · exact ⟨_, zeroExtended_readN_toNat _ _ (by decide), loadReg_effect (exec_ldrh hc ix rn rd hoff) h⟩
  · exact ⟨_, BitVec.toInt_signExtend_of_le (by decide), loadReg_effect (exec_ldrsb hc ix rn rd hoff) h⟩
  · exact ⟨_, BitVec.toInt_signExtend_of_le (by decide), loadReg_effect (exec_ldrsh hc ix rn rd hoff) h⟩

/-- Settles O37: each store is `storeReg` at its address, of its width. -/
theorem storeResults : Obligations.StoreResults := by
  intro c ix rn rd off hoff s hc hs
  exact ⟨transferOffsets s, storeReg_effect hs (exec_str hc ix rn rd off), storeReg_effect hs (exec_strb hc ix rn rd off),
    storeReg_effect hs (exec_strh hc ix rn rd hoff)⟩

end Sys2Proof.Proofs
end

section
/-!
PROOFS. The step and the condition (40_decode.md): the format and the condition field, what a fetch runs, and what the
condition makes of an instruction.
-/

namespace Sys2Proof.Proofs

open Sys2Proof.Machine Sys2Proof.Safety

/-! ## The format -/

/-- Settles O3: the classifier is a function of the body of the word. -/
theorem classificationIgnoresCondition : Obligations.ClassificationIgnoresCondition := by
  intro v w h
  have hbody : bodyOf v = bodyOf w := h
  rw [classify_eq_firstHit, classify_eq_firstHit, hbody]

/-! ## A word and its bytes -/

/-- A byte put below a value: little-endian, the lower byte counts once (20_memory.md R54). -/
theorem toNat_append_byte {n : Nat} (x : BitVec n) (b : Byte) : (x ++ b).toNat = b.toNat + 256 * x.toNat := by
  rw [BitVec.toNat_append, ← Nat.shiftLeft_add_eq_or_of_lt b.isLt, Nat.shiftLeft_eq, Nat.mul_comm, Nat.add_comm]

theorem wordOfBytes_toNat (b0 b1 b2 b3 : Byte) : (wordOfBytes b0 b1 b2 b3).toNat =
    b0.toNat + 256 * (b1.toNat + 256 * (b2.toNat + 256 * b3.toNat)) := by
  rw [wordOfBytes, toNat_append_byte, toNat_append_byte, toNat_append_byte]

/-- The word a fetch reads, from the four bytes at its address (20_memory.md R54). -/
theorem ofNat_readN_four (m : Memory) (a : Nat) : BitVec.ofNat 32 (m.readN a 4) =
    wordOfBytes (m.read a) (m.read (a + 1)) (m.read (a + 2)) (m.read (a + 3)) := by
  apply BitVec.eq_of_toNat_eq
  have hlt : m.readN a 4 < 2 ^ 32 := m.readN_lt a 4
  rw [BitVec.toNat_ofNat, Nat.mod_eq_of_lt hlt, wordOfBytes_toNat]
  rfl

theorem wordOfBytes_bytesOfWord (w : Word) :
    wordOfBytes (bits w 0 8) (bits w 8 8) (bits w 16 8) (bits w 24 8) = w := by
  apply BitVec.eq_of_toNat_eq
  simp only [wordOfBytes_toNat, bits, BitVec.extractLsb'_toNat, Nat.shiftRight_eq_div_pow]
  omega

/-- Four bytes decode to what their word decodes to, with nothing left over. -/
theorem decode_four_iff {b0 b1 b2 b3 : Byte} {i : Instr} {rest : List Byte} :
    decode [b0, b1, b2, b3] = .ok (i, rest) ↔ decodeWord (wordOfBytes b0 b1 b2 b3) = .ok i ∧ rest = [] := by
  cases h : decodeWord (wordOfBytes b0 b1 b2 b3) <;> simp [decode, h, eq_comm]

theorem decodeTableWord_iff {nbits w : Nat} {i : Instr} :
    decodeTableWord nbits w = some i ↔ decodeWord (tableWord nbits w) = .ok i := by
  cases h : decodeWord (tableWord nbits w) <;>
    simp [decodeTableWord, bytesOfWord, decode, wordOfBytes_bytesOfWord, h]

/-! ## What a fetch runs -/

/-- A step whose fetch is let through executes the instruction of the word it fetched. -/
theorem step_eq_exec {s : State} {i : Instr} (hfetch : Allowed s s.pc 4 .read)
    (hi : decodeWord (BitVec.ofNat 32 (s.mem.readN s.pc.toNat 4)) = .ok i) :
    step s = exec i (s.resume.setReg 15 (s.pc + 4)) := by
  rw [step_allowed hfetch, runWord, hi]

/-- Settles O7: the four bytes make the word that the fetch reads. -/
theorem stepRunsTheDecoded : Obligations.StepRunsTheDecoded := by
  intro s i hfetch hdecode
  obtain ⟨hi, -⟩ := decode_four_iff.mp hdecode
  exact step_eq_exec hfetch (by rwa [ofNat_readN_four])

/-- Settles O8: the fault carries the state as it was, started Running. -/
theorem fetchFaultKeepsEverything : Obligations.FetchFaultKeepsEverything :=
  fun s _ hdenied => ⟨step_denied hdenied, s.pc_resume, fun _ => rfl⟩

/-! ## A placed word -/

theorem placeWord_pc (s : State) (w : Word) : (s.placeWord w).pc = s.pc := rfl

/-- What the fetch reads after a word is placed. -/
theorem readN_placeWord {s : State} (hwf : Memory.wf s.mem) (w : Word) :
    (s.placeWord w).mem.readN s.pc.toNat 4 = w.toNat :=
  (Memory.readN_writeN _ _ _ hwf).trans (Nat.mod_eq_of_lt w.isLt)

theorem authorized_append_self (ranges : List AccessRange) (a : Word) (n : Nat) :
    authorized (ranges ++ [⟨a, n, .read⟩]) a n .read = true := by
  simp [authorized, allows, covers]

/-- The Protected variant authorises the fetch of a placed word: some range did before, or the one put at the end
does. -/
theorem authorized_placeWord {s : State} (hprot : s.setup.variant = .prot) (w : Word) :
    authorized (s.placeWord w).ranges s.pc 4 .read = true := by
  rw [State.placeWord]
  split
  case isTrue hauth => exact hauth
  case isFalse => exact authorized_append_self ..

/-- The port lets the fetch of a placed word through when its four bytes lie in the image. -/
theorem allowed_placeWord {s : State} (hin : s.pc.toNat + 4 ≤ s.setup.memSize) (w : Word) :
    Allowed (s.placeWord w) s.pc 4 .read := by
  have hsetup : (s.placeWord w).setup = s.setup := rfl
  cases hv : s.setup.variant with
  | raw => rw [Allowed, checkAccess_raw (hsetup ▸ hv), if_neg (hsetup ▸ hin.not_gt)]
  | prot => rw [Allowed, checkAccess_authorized (authorized_placeWord hv w), if_neg (hsetup ▸ hin.not_gt)]

/-- Settles O9: the fetch of the placed word is let through and reads it. -/
theorem placedWordRuns : Obligations.PlacedWordRuns := by
  rintro s nbits w i ⟨hwf, -⟩ hin hi
  refine step_eq_exec (allowed_placeWord hin _) ?_
  rw [State.withFetchWord, placeWord_pc, readN_placeWord hwf, BitVec.ofNat_toNat, BitVec.setWidth_eq]
  exact decodeTableWord_iff.mp hi

/-! ## The condition -/

/-- Outside the field `1111` the condition test is the evaluator on the four flags (40_decode.md R123). -/
theorem passes_iff {c : Cond} (h : c ≠ .nv) (s : State) :
    Passes c s ↔ condHolds c s.flagN s.flagZ s.flagC s.flagV = true := by
  simp [Passes, condTest, h]

/-- The field `1111` is turned away or fails as `COND_1111` says, whatever the flags (40_decode.md R125). -/
theorem condTest_nv_fault {s : State} (h : s.setup.cond1111 = .fault) : condTest .nv s = .reserved := by
  simp [condTest, h]

theorem condTest_nv_never {s : State} (h : s.setup.cond1111 = .never) : condTest .nv s = .fails := by
  simp [condTest, h]

/-- Settles O10: a table over the sixteen values of the four flags. -/
theorem conditionCodes : Obligations.ConditionCodes := by
  intro s
  simp (disch := decide) only [passes_iff, State.flagN, State.flagZ, State.flagC, State.flagV]
  generalize s.cpsr.getLsbD 31 = n, s.cpsr.getLsbD 30 = z, s.cpsr.getLsbD 29 = cf, s.cpsr.getLsbD 28 = v
  revert n z cf v
  decide

/-- An instruction whose condition fails is a no-op, the undefined format aside. -/
theorem exec_fails {i : Instr} {s : State} (h : isUndefined i = false) (hc : condTest i.cond s = .fails) :
    exec i s = .next s := by
  obtain ⟨k, hk⟩ := exec_whenCond h s
  rw [hk, whenCond_fails k hc]

/-- The undefined format faults without a condition test (40_decode.md R126, 47_system.md R321). -/
theorem exec_undefinedFormat {i : Instr} (h : isUndefined i = true) (s : State) : exec i s = .fault (.undefined s) := by
  unfold isUndefined at h
  split at h
  · rfl
  · cases h

/-- An instruction of the reserved condition is undefined, whatever its format. -/
theorem exec_reserved {i : Instr} {s : State} (hc : condTest i.cond s = .reserved) :
    exec i s = .fault (.undefined s) := by
  cases h : isUndefined i with
  | false =>
    obtain ⟨k, hk⟩ := exec_whenCond h s
    rw [hk, whenCond_reserved k hc]
  | true => exact exec_undefinedFormat h s

/-- Settles O11. -/
theorem failedConditionIsNoOp : Obligations.FailedConditionIsNoOp := fun _ _ => exec_fails

/-- Settles O12: what `COND_1111` makes of the condition test, for every instruction. -/
theorem reservedCondition : Obligations.ReservedCondition := by
  intro i s hnv
  exact ⟨fun hfault => exec_reserved (hnv ▸ condTest_nv_fault hfault),
    fun hnever hdef => exec_fails hdef (hnv ▸ condTest_nv_never hnever)⟩

end Sys2Proof.Proofs
end

section
/-!
PROOFS. The barrel shifter (41_shifter.md R150 to R159): what each type answers in each range of amounts, the table of
the edge cases, the shifts as arithmetic, and the reads of register 15.
-/

namespace Sys2Proof.Proofs

open Sys2Proof.Machine

/-! ## The shift types by range of the amount -/

section

variable (c : Bool) (v : Word) {amt : Nat} (enc : ShiftEnc)

theorem shiftLsl_of_lt (h0 : amt ≠ 0) (h : amt < 32) : shiftLsl v amt = ⟨v <<< amt, v.getLsbD (32 - amt)⟩ := by
  rw [shiftLsl, if_neg h0, if_pos h]

theorem shiftLsl_of_gt (h : 32 < amt) : shiftLsl v amt = ⟨0, false⟩ := by
  rw [shiftLsl, if_neg (Nat.ne_zero_of_lt h), if_neg h.not_gt, if_neg h.ne']

theorem shiftLsr_of_lt (h0 : amt ≠ 0) (h : amt < 32) : shiftLsr v amt = ⟨v >>> amt, v.getLsbD (amt - 1)⟩ := by
  rw [shiftLsr, if_neg h0, if_pos h]

theorem shiftLsr_of_gt (h : 32 < amt) : shiftLsr v amt = ⟨0, false⟩ := by
  rw [shiftLsr, if_neg (Nat.ne_zero_of_lt h), if_neg h.not_gt, if_neg h.ne']

theorem shiftAsr_of_lt (h0 : amt ≠ 0) (h : amt < 32) :
    shiftAsr c v amt = ⟨v.sshiftRight amt, v.getLsbD (amt - 1)⟩ := by
  rw [shiftAsr, if_neg h0, if_pos h]

theorem shiftAsr_of_ge (h : 32 ≤ amt) :
    shiftAsr c v amt = ⟨if v.getLsbD 31 then 0xFFFFFFFF else 0, v.getLsbD 31⟩ := by
  rw [shiftAsr, if_neg (Nat.ne_zero_of_lt h), if_neg h.not_gt, BitVec.msb_eq_getLsbD_last]

theorem shiftRor_of_lt (h0 : amt ≠ 0) (h : amt < 32) :
    shiftRor c v amt enc = ⟨v >>> amt ||| v <<< (32 - amt), v.getLsbD (amt - 1)⟩ := by
  simp only [shiftRor, Nat.mod_eq_of_lt h, if_neg h0]

theorem shiftRor_of_mod_eq_zero (h0 : amt ≠ 0) (h : amt % 32 = 0) : shiftRor c v amt enc = ⟨v, v.getLsbD 31⟩ := by
  simp only [shiftRor, if_neg h0, if_pos h, BitVec.msb_eq_getLsbD_last]

/-- Outside the multiples of 32 a rotate sees its amount modulo 32 only (41_shifter.md R158). -/
theorem shiftRor_mod (h : amt % 32 ≠ 0) : shiftRor c v amt enc = shiftRor c v (amt % 32) enc := by
  have h0 : amt ≠ 0 := by rintro rfl; exact h rfl
  simp only [shiftRor, Nat.mod_mod, if_neg h, if_neg h0]

end

/-! ## The shifts at the edges, bit by bit -/

theorem shiftRrx_eq (c : Bool) (v : Word) :
    shiftRrx c v = ⟨(if c then 0x80000000 else 0) ||| v >>> 1, v.getLsbD 0⟩ := by
  rw [← shiftRrx_value]
  rfl

theorem shiftLeft_31 (v : Word) : v <<< 31 = (v &&& 1) <<< 31 := by
  ext i hi
  simp only [BitVec.getElem_shiftLeft, BitVec.getElem_and]
  by_cases h : i < 31
  · simp [h]
  · obtain rfl : i = 31 := by omega
    simp

theorem ushiftRight_31 (v : Word) : v >>> 31 = if v.getLsbD 31 then 1 else 0 := by
  have hlt := v.isLt
  have hmsb : v.getLsbD 31 = decide (2 ^ 31 ≤ v.toNat) :=
    (BitVec.msb_eq_getLsbD_last v).symm.trans (BitVec.msb_eq_decide v)
  apply BitVec.eq_of_toNat_eq
  rw [BitVec.toNat_ushiftRight, Nat.shiftRight_eq_div_pow, hmsb]
  by_cases h : 2 ^ 31 ≤ v.toNat
  · have hdiv : v.toNat / 2 ^ 31 = 1 := by omega
    rw [decide_eq_true h, hdiv]
    rfl
  · rw [decide_eq_false h, Nat.div_eq_of_lt (not_le.mp h)]
    rfl

/-- An arithmetic right shift is the logical one with the sign filled in above. -/
theorem sshiftRight_eq_fill_or (v : Word) (n : Nat) :
    v.sshiftRight n = (if v.getLsbD 31 then BitVec.allOnes 32 <<< (32 - n) else 0) ||| v >>> n := by
  have hmsb : v.msb = v.getLsbD 31 := BitVec.msb_eq_getLsbD_last v
  cases hs : v.msb with
  | false =>
    rw [BitVec.sshiftRight_eq_of_msb_false hs, ← hmsb, hs]
    exact BitVec.zero_or.symm
  | true =>
    rw [← hmsb, hs, if_pos rfl]
    ext i hi
    rw [BitVec.getElem_sshiftRight, hs, BitVec.getElem_or, BitVec.getElem_ushiftRight]
    split
    case isTrue h =>
      have : i < 32 - n := by omega
      simp [this, BitVec.getLsbD_eq_getElem h]
    case isFalse h =>
      have : ¬ i < 32 - n := by omega
      rw [BitVec.getElem_shiftLeft, BitVec.getElem_allOnes]
      simp [this]

theorem sshiftRight_1 (v : Word) : v.sshiftRight 1 = (if v.getLsbD 31 then 0x80000000 else 0) ||| v >>> 1 := by
  rw [sshiftRight_eq_fill_or]
  split <;> rfl

theorem sshiftRight_31 (v : Word) : v.sshiftRight 31 = if v.getLsbD 31 then 0xFFFFFFFF else 0 := by
  rw [sshiftRight_eq_fill_or, ushiftRight_31]
  split <;> rfl

/-! ## The cells of the table that are no case of a range -/

section

variable (c : Bool) (v : Word)

theorem shiftAsr_1 : shiftAsr c v 1 = ⟨(if v.getLsbD 31 then 0x80000000 else 0) ||| v >>> 1, v.getLsbD 0⟩ := by
  rw [shiftAsr_of_lt c v (by decide) (by decide), sshiftRight_1]

theorem shiftRor_1 (enc : ShiftEnc) : shiftRor c v 1 enc = ⟨v >>> 1 ||| (v &&& 1) <<< 31, v.getLsbD 0⟩ := by
  rw [shiftRor_of_lt c v enc (by decide) (by decide), ← shiftLeft_31]

theorem shiftLsl_31 : shiftLsl v 31 = ⟨(v &&& 1) <<< 31, v.getLsbD 1⟩ := by
  rw [shiftLsl_of_lt v (by decide) (by decide), shiftLeft_31]

theorem shiftLsr_31 : shiftLsr v 31 = ⟨if v.getLsbD 31 then 1 else 0, v.getLsbD 30⟩ := by
  rw [shiftLsr_of_lt v (by decide) (by decide), ushiftRight_31]

theorem shiftAsr_31 : shiftAsr c v 31 = ⟨if v.getLsbD 31 then 0xFFFFFFFF else 0, v.getLsbD 30⟩ := by
  rw [shiftAsr_of_lt c v (by decide) (by decide), sshiftRight_31]

theorem shiftRor_31 (enc : ShiftEnc) : shiftRor c v 31 enc = ⟨v <<< 1 ||| v >>> 31, v.getLsbD 30⟩ := by
  rw [shiftRor_of_lt c v enc (by decide) (by decide), BitVec.or_comm]

theorem shiftLsr_32 : shiftLsr v 32 = ⟨0, v.getLsbD 31⟩ := congrArg (Shifted.mk 0) (BitVec.msb_eq_getLsbD_last v)

theorem shiftRor_32 (enc : ShiftEnc) : shiftRor c v 32 enc = ⟨v, v.getLsbD 31⟩ :=
  shiftRor_of_mod_eq_zero c v enc (by decide) rfl

end

/-- Settles O25, row by row: 33 and 255 rotate as 1 and 31 do, and from 32 on an arithmetic shift gives the sign. -/
theorem shifterEdgeTable : Obligations.ShifterEdgeTable := by
  intro c v
  have hror33 : shiftRor c v 33 .reg = shiftRor c v 1 .reg := shiftRor_mod c v .reg (by decide)
  have hror255 : shiftRor c v 255 .reg = shiftRor c v 31 .reg := shiftRor_mod c v .reg (by decide)
  refine ⟨?amount0, ?amount1, ?amount31, ?amount32, ?amount33, ?amount255, ?immediate0⟩
  case amount0 => exact ⟨rfl, rfl, shiftRrx_eq c v, rfl⟩
  case amount1 => exact ⟨rfl, rfl, shiftAsr_1 c v, shiftRor_1 c v .reg⟩
  case amount31 => exact ⟨shiftLsl_31 v, shiftLsr_31 v, shiftAsr_31 c v, shiftRor_31 c v .reg⟩
  case amount32 => exact ⟨rfl, shiftLsr_32 v, shiftAsr_of_ge c v (by decide), shiftRor_32 c v .reg⟩
  case amount33 =>
    exact ⟨shiftLsl_of_gt v (by decide), shiftLsr_of_gt v (by decide), shiftAsr_of_ge c v (by decide),
      hror33.trans (shiftRor_1 c v .reg)⟩
  case amount255 =>
    exact ⟨shiftLsl_of_gt v (by decide), shiftLsr_of_gt v (by decide), shiftAsr_of_ge c v (by decide),
      hror255.trans (shiftRor_31 c v .reg)⟩
  case immediate0 => exact ⟨rfl, rfl, shiftRrx_eq c v, shiftRrx_eq c v⟩

/-- Settles O26: each type in each range, as a number, a bit or a rotation. -/
theorem shiftsAreArithmetic : Obligations.ShiftsAreArithmetic := by
  intro c v n e
  refine ⟨fun h1 h31 => ?_, fun h => ?_, fun h => ⟨shiftLsl_of_gt v h, shiftLsr_of_gt v h⟩, shiftAsr_of_ge c v⟩
  · have h0 : n ≠ 0 := Nat.ne_zero_of_lt h1
    have hlt : n < 32 := Nat.lt_succ_of_le h31
    exact ⟨shiftLsl_toNat v hlt, congrArg Shifted.cout (shiftLsl_of_lt v h0 hlt),
      shiftLsr_toNat v hlt, congrArg Shifted.cout (shiftLsr_of_lt v h0 hlt),
      shiftAsr_toInt c v h0 hlt, congrArg Shifted.cout (shiftAsr_of_lt c v h0 hlt),
      shiftRor_eq_rotateRight c v h0 hlt e, congrArg Shifted.cout (shiftRor_of_lt c v e h0 hlt)⟩
  · split
    case isTrue hmod => exact shiftRor_of_mod_eq_zero c v e (Nat.ne_zero_of_lt h) hmod
    case isFalse hmod => exact shiftRor_mod c v e hmod

/-! ## Register 15 -/

/-- Register 15 is read with the site's offset added (41_shifter.md R150). -/
theorem rd_pc (s : State) (off : Nat) : s.rd 15 off = s.pc + BitVec.ofNat 32 off := if_pos rfl

/-- The low byte of a register as a number (41_shifter.md R151). -/
theorem shiftAmount_eq_mod (s : State) (rs : Reg) : shiftAmount s rs = (s.rd rs s.setup.off.dpRs).toNat % 256 := by
  rw [shiftAmount, BitVec.extractLsb'_toNat, Nat.shiftRight_zero]

/-- A pre-indexed address with the offset 0 is the base as the site reads it (44_single_transfer.md R240). -/
theorem sdtAddress_zero (s : State) (w : Bool) (rn : Reg) :
    (sdtAddress s ⟨true, true, w⟩ rn (.imm 0)).addr = s.rd rn s.setup.off.sdtBase := BitVec.add_zero _

/-- The halfword transfers likewise (44_single_transfer.md R246). -/
theorem hdtAddress_zero (s : State) (w : Bool) (rn : Reg) :
    (hdtAddress s ⟨true, true, w⟩ rn (.imm 0)).addr = s.rd rn s.setup.off.hdtBase := BitVec.add_zero _

/-- Settles O28: every site adds its own offset to the stored value. -/
theorem registerFifteenReads : Obligations.RegisterFifteenReads := by
  intro s imm24 ty rs hoff
  simp only [branchTarget, operand1, operand2, shiftAmount_eq_mod, sdtAddress_zero, sdtOffset, hdtAddress_zero,
    hdtOffset, mulOperand, copReg, rd_pc, hoff, offsets, BitVec.add_zero, and_true, true_and]
  exact ⟨rfl, rfl, rfl, rfl, rfl, rfl, rfl, rfl, rfl, rfl⟩

end Sys2Proof.Proofs
end

section
/-!
PROOFS. The sixteen opcodes of data processing (42_data_processing.md R180 to R183, R190 to R205): what the shape of an
instruction does with the ALU's answer, and the answers of the additive and subtractive opcodes as exact integers.
-/

namespace Sys2Proof.Proofs

open Sys2Proof.Machine Sys2Proof.Safety

/-! ## What an answer of the ALU does to the state -/

section Effect

variable {i : Instr} {c : Cond} {o : Operand2} {alu : Shifted → AluOut} {s t : State} {rs : List Reg} {result : Word}
  {cf vf : Bool}

theorem onlyRegsAndFlags_setAluFlags (h : OnlyRegsAndFlags rs s t) (x : AluOut) :
    OnlyRegsAndFlags rs s (t.setAluFlags x) := h

/-- N and Z are the result's, and the reserved bits of CPSR stay (42_data_processing.md R181 to R183). -/
theorem flagsAre_setAluFlags (h : t.cpsr = s.cpsr) :
    FlagsAre (result.getLsbD 31) (decide (result = 0)) cf vf s (t.setAluFlags ⟨result, cf, vf⟩) := by
  refine ⟨(State.flagN_setFlags ..).trans (BitVec.msb_eq_getLsbD_last result), State.flagZ_setFlags ..,
    State.flagC_setFlags .., State.flagV_setFlags .., ?_⟩
  rw [← h]
  exact t.setFlags_low ..

/-- An instruction of the shape `dpWrite` whose ALU answers `result`, `cf` and `vf`: the destination is written, then
with `S = 1` the flags (42_data_processing.md R180). -/
theorem aluEffect_of_dpWrite {sf : Bool} {rd : Reg} (hc : Passes c s) (hrd : ¬(sf = true ∧ rd = 15))
    (hi : exec i s = dpWrite c sf rd o alu s) (halu : alu (operand2 s o) = ⟨result, cf, vf⟩) :
    AluEffect i s rd sf result cf vf := by
  have hexec : exec i s =
      .next (if sf then (s.setReg rd result).setAluFlags ⟨result, cf, vf⟩ else s.setReg rd result) :=
    hi.trans (dpWrite_next.mpr (.inl ⟨hc, by simpa using hrd, by rw [halu]⟩))
  have hreg : (s.setReg rd result).reg rd = result := by simp
  obtain ⟨hframe, hcpsr⟩ := onlyRegs_setReg (onlyRegs_refl [rd] s) List.mem_cons_self result
  cases sf with
  | false => exact ⟨_, hexec, hreg, nofun, fun _ => hcpsr, hframe⟩
  | true =>
    exact ⟨_, hexec, hreg, fun _ => flagsAre_setAluFlags hcpsr, nofun, onlyRegsAndFlags_setAluFlags hframe _⟩

/-- A compare is the same without a destination. -/
theorem compareEffect_of_dpCompare (hc : Passes c s) (hi : exec i s = dpCompare c o alu s)
    (halu : alu (operand2 s o) = ⟨result, cf, vf⟩) : CompareEffect i s result cf vf := by
  have hexec : exec i s = .next (s.setAluFlags ⟨result, cf, vf⟩) :=
    hi.trans (dpCompare_next.mpr (.inl ⟨hc, by rw [halu]⟩))
  obtain ⟨hframe, -⟩ := onlyRegs_refl [] s
  exact ⟨_, hexec, flagsAre_setAluFlags rfl, onlyRegsAndFlags_setAluFlags hframe _⟩

end Effect

/-! ## The sum and the difference -/

/-- The low word of the exact sum of two words and a carry-in. -/
def sumWord (a b : Word) (cin : Bool) : Word := BitVec.ofNat 32 (a.toNat + b.toNat + cin.toNat)

theorem sumWord_toNat (a b : Word) (cin : Bool) :
    (sumWord a b cin).toNat = (a.toNat + b.toNat + cin.toNat) % 2 ^ 32 := BitVec.toNat_ofNat ..

/-- Signed overflow by sign bits: addends of one sign with a result of the other (42_data_processing.md R182). With the
sign bits and the signed values written as comparisons of the unsigned ones, it is linear arithmetic. -/
theorem overflow_eq (a b : Word) (cin : Bool) :
    (a.msb == b.msb && (sumWord a b cin).msb != a.msb) =
      decide ((sumWord a b cin).toInt ≠ a.toInt + b.toInt + cin.toNat) := by
  have ha : a.toNat < 2 ^ 32 := a.isLt
  have hb : b.toNat < 2 ^ 32 := b.isLt
  have hcin : cin.toNat ≤ 1 := cin.toNat_le
  rw [Bool.eq_iff_iff]
  simp only [BitVec.msb_eq_decide, BitVec.toInt_eq_toNat_cond, sumWord_toNat, Bool.and_eq_true, beq_iff_eq, bne_iff_ne,
    ne_eq, decide_eq_decide, decide_eq_true_eq]
  omega

theorem addOut_eq (a b : Word) (cin : Bool) : addOut a b cin =
    ⟨sumWord a b cin, decide (2 ^ 32 ≤ a.toNat + b.toNat + cin.toNat),
      decide ((sumWord a b cin).toInt ≠ a.toInt + b.toInt + cin.toNat)⟩ :=
  congrArg (AluOut.mk _ _) (overflow_eq a b cin)

/-- Without a carry-in the sum is the one of the words. -/
theorem addOut_false (a b : Word) : addOut a b false =
    ⟨a + b, decide (2 ^ 32 ≤ a.toNat + b.toNat), decide ((a + b).toInt ≠ a.toInt + b.toInt)⟩ := by
  have hsum : sumWord a b false = a + b := by
    rw [sumWord, Bool.toNat_false, Nat.add_zero, BitVec.ofNat_add, BitVec.ofNat_toNat, BitVec.ofNat_toNat,
      BitVec.setWidth_eq, BitVec.setWidth_eq]
  rw [addOut_eq, hsum, Bool.toNat_false, Nat.add_zero, Int.natCast_zero, Int.add_zero]

theorem toInt_not_eq (b : Word) : (~~~b).toInt = -1 - b.toInt := by
  have hb : b.toNat < 2 ^ 32 := b.isLt
  rw [BitVec.toInt_eq_toNat_cond, BitVec.toInt_eq_toNat_cond, BitVec.toNat_not]
  omega

/-- A difference is the sum with the complement of the subtrahend: `a - b - (1 - cin)` and `a + ~b + cin` differ by
`2 ^ 32` (42_data_processing.md R183). -/
theorem subOut_eq_addOut_not (a b : Word) (cin : Bool) : subOut a b cin = addOut a (~~~b) cin := by
  have hb : b.toNat < 2 ^ 32 := b.isLt
  have hdiff : (a.toNat : Int) - b.toNat - (1 - cin.toNat) = (a.toNat + (~~~b).toNat + cin.toNat : Nat) - 2 ^ 32 := by
    rw [BitVec.toNat_not]; omega
  have hword : BitVec.ofInt 32 ((a.toNat + (~~~b).toNat + cin.toNat : Nat) - 2 ^ 32) = sumWord a (~~~b) cin := by
    apply BitVec.eq_of_toNat_eq
    rw [BitVec.toNat_ofInt, sumWord_toNat]
    omega
  have hcarry : decide (0 ≤ ((a.toNat + (~~~b).toNat + cin.toNat : Nat) : Int) - 2 ^ 32) =
      decide (2 ^ 32 ≤ a.toNat + (~~~b).toNat + cin.toNat) := decide_eq_decide.mpr (by omega)
  have hsign : (a.msb != b.msb) = (a.msb == (~~~b).msb) := by
    rw [BitVec.msb_not]; cases a.msb <;> cases b.msb <;> rfl
  simp only [subOut, hdiff, hword, hcarry, hsign]
  rfl

theorem subOut_eq (a b : Word) (cin : Bool) : subOut a b cin =
    ⟨sumWord a (~~~b) cin, decide (2 ^ 32 ≤ a.toNat + (~~~b).toNat + cin.toNat),
      decide ((sumWord a (~~~b) cin).toInt ≠ a.toInt - b.toInt - (1 - cin.toNat))⟩ := by
  have hdiff : a.toInt + (~~~b).toInt + cin.toNat = a.toInt - b.toInt - (1 - cin.toNat) := by
    rw [toInt_not_eq]; omega
  rw [subOut_eq_addOut_not, addOut_eq, hdiff]

theorem sumWord_not_true (a b : Word) : sumWord a (~~~b) true = a - b := by
  have hb : b.toNat < 2 ^ 32 := b.isLt
  apply BitVec.eq_of_toNat_eq
  rw [sumWord_toNat, BitVec.toNat_not, BitVec.toNat_sub, Bool.toNat_true]
  omega

/-- Without a borrow in the difference is the one of the words, and C says that it needs no borrow. -/
theorem subOut_true (a b : Word) : subOut a b true =
    ⟨a - b, decide (b.toNat ≤ a.toNat), decide ((a - b).toInt ≠ a.toInt - b.toInt)⟩ := by
  have hb : b.toNat < 2 ^ 32 := b.isLt
  have hcarry : 2 ^ 32 ≤ a.toNat + (~~~b).toNat + 1 ↔ b.toNat ≤ a.toNat := by
    rw [BitVec.toNat_not]; omega
  rw [subOut_eq, sumWord_not_true, Bool.toNat_true, decide_eq_decide.mpr hcarry, Int.natCast_one, Int.sub_self,
    Int.sub_zero]

theorem toNat_sub_eq (a b : Word) : (a - b).toNat = (a.toNat + (~~~b).toNat + 1) % 2 ^ 32 := by
  rw [← sumWord_not_true, sumWord_toNat, Bool.toNat_true]

/-! ## The opcodes -/

/-- Settles O29: the six are `dpWrite` with a logical answer, whose C is the shifter's and whose V is kept. -/
theorem logicalResults : Obligations.LogicalResults := by
  intro c sf rn rd o s hc hrd
  refine ⟨aluEffect_of_dpWrite hc hrd (by rw [exec, execAnd]) ?and,
    aluEffect_of_dpWrite hc hrd (by rw [exec, execEor]) ?eor, aluEffect_of_dpWrite hc hrd (by rw [exec, execOrr]) ?orr,
    aluEffect_of_dpWrite hc hrd (by rw [exec, execBic]) ?bic, aluEffect_of_dpWrite hc hrd (by rw [exec, execMov]) ?mov,
    aluEffect_of_dpWrite hc hrd (by rw [exec, execMvn]) ?mvn⟩ <;>
  rfl

/-- Settles O30: ADD and ADC are `dpWrite` with a sum, whose carry-in is 0 and the flag C. -/
theorem additiveResults : Obligations.AdditiveResults := by
  intro c sf rn rd o s hc hrd a b
  refine ⟨⟨a + b, BitVec.toNat_add a b, aluEffect_of_dpWrite hc hrd (by rw [exec, execAdd]) ?add⟩,
    ⟨sumWord a b s.flagC, sumWord_toNat a b s.flagC, aluEffect_of_dpWrite hc hrd (by rw [exec, execAdc]) ?adc⟩⟩
  case add => exact addOut_false a b
  case adc => exact addOut_eq a b s.flagC

/-- Settles O31: the four are `dpWrite` with a difference, the operands in order or reversed, and no borrow in or the
one of the flag C. -/
theorem subtractiveResults : Obligations.SubtractiveResults := by
  intro c sf rn rd o s hc hrd a b
  refine ⟨⟨a - b, toNat_sub_eq a b, aluEffect_of_dpWrite hc hrd (by rw [exec, execSub]) ?sub⟩,
    ⟨b - a, toNat_sub_eq b a, aluEffect_of_dpWrite hc hrd (by rw [exec, execRsb]) ?rsb⟩,
    ⟨_, sumWord_toNat a (~~~b) s.flagC, aluEffect_of_dpWrite hc hrd (by rw [exec, execSbc]) ?sbc⟩,
    ⟨_, sumWord_toNat b (~~~a) s.flagC, aluEffect_of_dpWrite hc hrd (by rw [exec, execRsc]) ?rsc⟩⟩
  case sub => exact subOut_true a b
  case rsb => exact subOut_true b a
  case sbc => exact subOut_eq a b s.flagC
  case rsc => exact subOut_eq b a s.flagC

/-- Settles O32: TST, TEQ, CMP and CMN are `dpCompare` with the answers of AND, EOR, SUB and ADD. -/
theorem compareResults : Obligations.CompareResults := by
  intro c rn o s hc a b sc
  refine ⟨compareEffect_of_dpCompare hc (by rw [exec, execTst]) ?tst,
    compareEffect_of_dpCompare hc (by rw [exec, execTeq]) ?teq,
    compareEffect_of_dpCompare hc (by rw [exec, execCmp]) ?cmp,
    compareEffect_of_dpCompare hc (by rw [exec, execCmn]) ?cmn⟩
  case tst => rfl
  case teq => rfl
  case cmp => exact subOut_true a b
  case cmn => exact addOut_false a b

end Sys2Proof.Proofs
end

section
/-!
PROOFS. The multiplies (43_multiply.md R221 to R230): what the shape of an instruction does with a product, and the
products and accumulations as exact integers.
-/

namespace Sys2Proof.Proofs

open Sys2Proof.Machine Sys2Proof.Safety

/-! ## What a product does to the state -/

section Effect

variable {i : Instr} {s t : State} {rs : List Reg} {n z : Bool}

/-- A state with N and Z written where the destinations let a multiply write them (43_multiply.md R226). -/
def writeNZIf (written n z : Bool) (t : State) : State := if written then t.setNZ n z else t

@[simp] theorem reg_writeNZIf (written n z : Bool) (t : State) (r : Reg) :
    (writeNZIf written n z t).reg r = t.reg r := by
  cases written <;> rfl

theorem mulWrite_eq (sf : Bool) (rd : Reg) (v : Word) (s : State) :
    mulWrite sf rd v s = writeNZIf (sf && rd != 15) v.msb (v == 0) (s.setReg rd v) := rfl

theorem mulWriteLong_eq (sf : Bool) (hi lo : Reg) (p : Dword) (s : State) :
    mulWriteLong sf hi lo p s = writeNZIf (sf && hi != 15 && lo != 15) p.msb (p == 0)
      ((s.setReg lo (p.extractLsb' 0 32)).setReg hi (p.extractLsb' 32 32)) := rfl

theorem onlyRegsAndFlags_writeNZIf (h : OnlyRegsAndFlags rs s t) (written n z : Bool) :
    OnlyRegsAndFlags rs s (writeNZIf written n z t) := by
  cases written <;> exact h

/-- Where they are written, N and Z are the result's; C, V and the reserved bits stay (43_multiply.md R226). -/
theorem mulFlags_writeNZIf (h : t.cpsr = s.cpsr) (written : Bool) :
    MulFlags written n z s (writeNZIf written n z t) := by
  cases written with
  | false => exact ⟨nofun, fun _ => h⟩
  | true =>
    refine ⟨fun _ => ⟨State.flagN_setFlags .., State.flagZ_setFlags .., ?_, ?_, ?_⟩, nofun⟩
    · exact (State.flagC_setFlags ..).trans (congrArg (BitVec.getLsbD · 29) h)
    · exact (State.flagV_setFlags ..).trans (congrArg (BitVec.getLsbD · 28) h)
    · exact h ▸ t.setFlags_low ..

theorem mulEffect_of_mulWrite {sf : Bool} {rd : Reg} {result : Word}
    (hexec : exec i s = .next (mulWrite sf rd result s)) : MulEffect i s sf rd result := by
  obtain ⟨hframe, hcpsr⟩ := onlyRegs_setReg (onlyRegs_refl [rd] s) List.mem_cons_self result
  refine ⟨_, hexec, ?_, ?_, ?_⟩ <;> rw [mulWrite_eq]
  · simp
  · exact mulFlags_writeNZIf hcpsr _
  · exact onlyRegsAndFlags_writeNZIf hframe ..

/-- The low word is written first, so of equal destinations the high word remains (43_multiply.md R223). -/
theorem mulLongEffect_of_mulWriteLong {sf : Bool} {hi lo : Reg} {p : Dword}
    (hexec : exec i s = .next (mulWriteLong sf hi lo p s)) : MulLongEffect i s sf hi lo p := by
  obtain ⟨hframe, hcpsr⟩ := onlyRegs_setReg
    (onlyRegs_setReg (onlyRegs_refl [hi, lo] s) (List.mem_cons_of_mem hi List.mem_cons_self) (p.extractLsb' 0 32))
    List.mem_cons_self (p.extractLsb' 32 32)
  refine ⟨_, hexec, ?_, fun hne => ?_, ?_, ?_⟩ <;> rw [mulWriteLong_eq]
  · simp
  · simp [hne]
  · exact mulFlags_writeNZIf hcpsr _
  · exact onlyRegsAndFlags_writeNZIf hframe ..

end Effect

/-! ## Products and accumulations as exact integers -/

theorem mul_add_toNat (a b n : Word) : (a * b + n).toNat = (a.toNat * b.toNat + n.toNat) % 2 ^ 32 := by
  rw [BitVec.toNat_add, BitVec.toNat_mul, Nat.mod_add_mod]

theorem mulAcc_toNat (s : State) (hi lo : Reg) :
    (mulAcc s hi lo).toNat = (mulOperand s hi).toNat * 2 ^ 32 + (mulOperand s lo).toNat := by
  rw [mulAcc, BitVec.toNat_append, ← Nat.shiftLeft_add_eq_or_of_lt (mulOperand s lo).isLt, Nat.shiftLeft_eq]

/-- The unsigned product of two words fits 64 bits (43_multiply.md R223). -/
theorem umulProduct_toNat (s : State) (rm rs : Reg) :
    (umulProduct s rm rs).toNat = (mulOperand s rm).toNat * (mulOperand s rs).toNat := by
  have hlt : (mulOperand s rm).toNat * (mulOperand s rs).toNat < 2 ^ 32 * 2 ^ 32 :=
    Nat.mul_lt_mul'' (mulOperand s rm).isLt (mulOperand s rs).isLt
  rw [umulProduct, BitVec.toNat_ofNat]
  exact Nat.mod_eq_of_lt hlt

/-- The signed product of two words lies within `2 ^ 62` of 0 and fits 64 bits (43_multiply.md R225). -/
theorem smulProduct_toInt (s : State) (rm rs : Reg) :
    (smulProduct s rm rs).toInt = (mulOperand s rm).toInt * (mulOperand s rs).toInt := by
  have hle := BitVec.toInt_mul_toInt_le (x := mulOperand s rm) (y := mulOperand s rs)
  have hge := BitVec.le_toInt_mul_toInt (x := mulOperand s rm) (y := mulOperand s rs)
  exact BitVec.toInt_ofInt_eq_self (by decide) (by omega) (by omega)

theorem umulProduct_add_mulAcc_toNat (s : State) (hi lo rm rs : Reg) :
    (umulProduct s rm rs + mulAcc s hi lo).toNat =
      ((mulOperand s rm).toNat * (mulOperand s rs).toNat +
        ((mulOperand s hi).toNat * 2 ^ 32 + (mulOperand s lo).toNat)) % 2 ^ 64 := by
  rw [BitVec.toNat_add, umulProduct_toNat, mulAcc_toNat]

/-- Signed accumulation is the unsigned one of the product modulo `2 ^ 64` (43_multiply.md R230). -/
theorem smulProduct_add_mulAcc_toNat (s : State) (hi lo rm rs : Reg) :
    ((smulProduct s rm rs + mulAcc s hi lo).toNat : Int) =
      ((mulOperand s rm).toInt * (mulOperand s rs).toInt +
        ((mulOperand s hi).toNat * 2 ^ 32 + (mulOperand s lo).toNat : Nat)) % 2 ^ 64 := by
  rw [BitVec.toNat_add, mulAcc_toNat, smulProduct, BitVec.toNat_ofInt]
  omega

/-! ## The instructions -/

/-- Settles O34: MUL and MLA are `mulWrite` of the words' product, with the addend of MLA. -/
theorem multiplyResults : Obligations.MultiplyResults := by
  intro c sf rd rn rs rm s hc
  exact ⟨⟨_, BitVec.toNat_mul .., mulEffect_of_mulWrite (by rw [exec, execMul, whenCond_passes _ hc])⟩,
    ⟨_, mul_add_toNat .., mulEffect_of_mulWrite (by rw [exec, execMla, whenCond_passes _ hc])⟩⟩

/-- Settles O35: the four are `mulWriteLong` of the unsigned or signed product, without or with the accumulator. -/
theorem longMultiplyResults : Obligations.LongMultiplyResults := by
  intro c sf hi lo rs rm s hc a b acc
  exact ⟨⟨_, umulProduct_toNat .., mulLongEffect_of_mulWriteLong (by rw [exec, execUmull, whenCond_passes _ hc])⟩,
    ⟨_, umulProduct_add_mulAcc_toNat .., mulLongEffect_of_mulWriteLong (by rw [exec, execUmlal, whenCond_passes _ hc])⟩,
    ⟨_, smulProduct_toInt .., mulLongEffect_of_mulWriteLong (by rw [exec, execSmull, whenCond_passes _ hc])⟩,
    ⟨_, smulProduct_add_mulAcc_toNat .., mulLongEffect_of_mulWriteLong (by rw [exec, execSmlal, whenCond_passes _ hc])⟩⟩

end Sys2Proof.Proofs
end

section
/-!
PROOFS. Single transfers the port turns away, and the swaps (44_single_transfer.md R251 to R254): the fault a load, a
store and a swap end with, and what a swap leaves.
-/

namespace Sys2Proof.Proofs

open Sys2Proof.Machine Sys2Proof.Safety

/-! ## Accesses turned away -/

theorem loadReg_denied {a : Address} {n : Nat} {rn rd : Reg} {value : Nat → Word} {s : State} {f : MemFault}
    (h : checkAccess s a.addr n .read = some f) : loadReg a n rn rd value s = .fault (.memory f s) :=
  loading_denied _ h

theorem storeReg_denied {a : Address} {n : Nat} {rn : Reg} {v : Word} {s : State} {f : MemFault}
    (h : checkAccess s a.addr n .write = some f) : storeReg a n rn v s = .fault (.memory f s) :=
  storing_denied _ _ h

/-- Settles O38: each load and store is `loadReg` or `storeReg`, whose access comes before every write. -/
theorem singleTransferFaults : Obligations.SingleTransferFaults := by
  intro c ix rn rd off hoff b f s hc
  refine ⟨fun h => ?ldr, fun h => ?ldrb, fun h => ?str, fun h => ?strb, fun h => ?ldrh, fun h => ?ldrsb,
    fun h => ?ldrsh, fun h => ?strh, ?sh00, ?signedStore⟩
  case ldr => exact (exec_ldr hc ix rn rd off).trans (loadReg_denied h)
  case ldrb => exact (exec_ldrb hc ix rn rd off).trans (loadReg_denied h)
  case str => exact (exec_str hc ix rn rd off).trans (storeReg_denied h)
  case strb => exact (exec_strb hc ix rn rd off).trans (storeReg_denied h)
  case ldrh => exact (exec_ldrh hc ix rn rd hoff).trans (loadReg_denied h)
  case ldrsb => exact (exec_ldrsb hc ix rn rd hoff).trans (loadReg_denied h)
  case ldrsh => exact (exec_ldrsh hc ix rn rd hoff).trans (loadReg_denied h)
  case strh => exact (exec_strh hc ix rn rd hoff).trans (storeReg_denied h)
  case sh00 => exact whenCond_passes (unimplemented .halfwordSH00) hc
  case signedStore => exact whenCond_passes (unimplemented .halfwordSignedStore) hc

/-! ## Swaps -/

theorem exec_swp {c : Cond} {s : State} (hc : Passes c s) (rn rd rm : Reg) :
    exec (.swp c rn rd rm) s = swap 4 rn rd rm s := whenCond_passes (swap 4 rn rd rm) hc

theorem exec_swpb {c : Cond} {s : State} (hc : Passes c s) (rn rd rm : Reg) :
    exec (.swpb c rn rd rm) s = swap 1 rn rd rm s := whenCond_passes (swap 1 rn rd rm) hc

section

variable {s : State} {n : Nat} {rn rd rm : Reg} {f : MemFault}

/-- A swap the port lets through (44_single_transfer.md R252): old bytes in `rd`, low bytes of `rm` in memory. -/
theorem swap_effect (hs : Invariant s) (hn : n ≤ 4) (hr : Allowed s (s.rd rn s.setup.off.swp) n .read)
    (hw : Allowed s (s.rd rn s.setup.off.swp) n .write) :
    ∃ t, swap n rn rd rm s = .next t ∧ (t.reg rd).toNat = s.mem.readN (s.rd rn s.setup.off.swp).toNat n ∧
      t.mem.readN (s.rd rn s.setup.off.swp).toNat n = (s.rd rm s.setup.off.swp).toNat % 256 ^ n ∧
      OnlyStores (s.rd rn s.setup.off.swp) n [rd] s t := by
  refine ⟨_, swap_next.mpr ⟨hr, hw, rfl⟩, ?_, ?_, onlyStores_setReg (onlyStores_writeN hs _ _ _ _) (by simp) _⟩
  · rw [State.reg_setReg, if_pos rfl, zeroExtended_readN_toNat _ _ hn]
  · obtain ⟨hwf, -⟩ := hs
    exact Memory.readN_writeN _ _ _ hwf

theorem swap_read_denied (hr : checkAccess s (s.rd rn s.setup.off.swp) n .read = some f) :
    swap n rn rd rm s = .fault (.memory f s) := loading_denied _ hr

/-- The destination is written after the write of memory, so a write turned away leaves it (D17). -/
theorem swap_write_denied (hr : Allowed s (s.rd rn s.setup.off.swp) n .read)
    (hw : checkAccess s (s.rd rn s.setup.off.swp) n .write = some f) :
    swap n rn rd rm s = .fault (.memory f s) := (loading_allowed _ hr).trans (storing_denied _ _ hw)

end

/-- Settles O39: SWP and SWPB are `swap` of four bytes and of one. -/
theorem swapResults : Obligations.SwapResults := by
  intro c rn rd rm f s hc hs a src p hp
  have hexec : exec p.1 s = swap p.2 rn rd rm s ∧ p.2 ≤ 4 := by
    rcases List.mem_pair.mp hp with rfl | rfl
    · exact ⟨exec_swp hc rn rd rm, le_refl 4⟩
    · exact ⟨exec_swpb hc rn rd rm, Nat.one_le_ofNat⟩
  obtain ⟨hswap, hn⟩ := hexec
  rw [hswap]
  exact ⟨swap_effect hs hn, swap_read_denied, swap_write_denied⟩

end Sys2Proof.Proofs
end

section
/-!
PROOFS. The results of block transfers (45_block_transfer.md R280 to R290): what LDM and STM leave when every access
is let through, and what they leave when the port turns one away part-way.
-/

namespace Sys2Proof.Proofs

open Sys2Proof.Machine Sys2Proof.Safety

/-! ## The registers before a given one -/

theorem regsOf_sorted (list : BitVec 16) : (regsOf list).Pairwise fun q r => q.toNat < r.toNat := by
  have hall : ([0, 1, 2, 3, 4, 5, 6, 7, 8, 9, 10, 11, 12, 13, 14, 15] : List Reg).Pairwise
      fun q r => q.toNat < r.toNat := by decide
  exact hall.filter _

/-- Ascending numbers upward, descending downward (45_block_transfer.md R280). -/
theorem transferOrder_sorted (up : Bool) (list : BitVec 16) :
    (transferOrder up list).Pairwise fun q r => transfersBefore up q r = true := by
  cases up with
  | true => simpa [transferOrder, transfersBefore] using regsOf_sorted list
  | false => simpa [transferOrder, transfersBefore, List.pairwise_reverse] using regsOf_sorted list

theorem transfersBefore_asymm {up : Bool} {q r : Reg} (h : transfersBefore up q r = true) :
    ¬transfersBefore up r q = true := by
  cases up <;> simp [transfersBefore] at h ⊢ <;> omega

/-- At a listed register the order splits: ahead of it stand the listed registers that are transferred before it. -/
theorem transferOrder_split {up : Bool} {list : BitVec 16} {r0 : Reg} (h : list.getLsbD r0.toNat = true) :
    ∃ pre post, transferOrder up list = pre ++ r0 :: post ∧
      ∀ q, q ∈ pre ↔ list.getLsbD q.toNat = true ∧ transfersBefore up q r0 = true := by
  obtain ⟨pre, post, hsplit⟩ := List.append_of_mem (mem_transferOrder (up := up).mpr h)
  have hsorted := transferOrder_sorted up list
  rw [hsplit, List.pairwise_append, List.pairwise_cons] at hsorted
  obtain ⟨-, ⟨hpost, -⟩, hpre⟩ := hsorted
  refine ⟨pre, post, hsplit, fun q => ⟨fun hq => ⟨?_, hpre q hq r0 List.mem_cons_self⟩, fun ⟨hlisted, hbefore⟩ => ?_⟩⟩
  · rw [← mem_transferOrder (up := up), hsplit]
    exact List.mem_append_left _ hq
  · rw [← mem_transferOrder (up := up), hsplit, List.mem_append, List.mem_cons] at hlisted
    rcases hlisted with hq | rfl | hq
    · exact hq
    · exact absurd hbefore (transfersBefore_asymm hbefore)
    · exact absurd hbefore (transfersBefore_asymm (hpost q hq))

/-! ## The transfers up to one that fails -/

theorem transferAll_append {transfer : Reg → Word → State → Except MemFault State} {addr : Reg → Word}
    {k : State → Result} {rs qs : List Reg} {s : State} :
    transferAll transfer addr k (rs ++ qs) s = transferAll transfer addr (transferAll transfer addr k qs) rs s := by
  induction rs generalizing s with
  | nil => rfl
  | cons r rs ih =>
    rw [List.cons_append, transferAll, transferAll]
    cases transfer r (addr r) s with
    | ok s' => exact ih
    | error f => rfl

/-- A transfer that fails ends the run with the transfers before it done (45_block_transfer.md R288). -/
theorem transferAll_stops {transfer : Reg → Word → State → Except MemFault State} {addr : Reg → Word}
    {k : State → Result} {pre post : List Reg} {r : Reg} {s u : State} {f : MemFault}
    (hpre : ∀ k, transferAll transfer addr k pre s = k u) (hr : transfer r (addr r) u = .error f) :
    transferAll transfer addr k (pre ++ r :: post) s = .fault (.memory f u) := by
  rw [transferAll_append, hpre, transferAll, hr]

/-- The stores complete where the port lets each of them through: they leave registers and access ranges alone. -/
theorem transferAll_stm {addr : Reg → Word} (k : State → Result) {rs : List Reg} {s : State}
    (h : ∀ r ∈ rs, checkAccess s (addr r) 4 .write = none) :
    transferAll stmTransfer addr k rs s =
      k { s with mem := storeAll (fun r => s.rd r s.setup.off.stmStore) addr rs s.mem } := by
  induction rs generalizing s with
  | nil => rfl
  | cons r rs ih =>
    obtain ⟨hr, hrs⟩ := List.forall_mem_cons.mp h
    rw [transferAll, stmTransfer, memWrite, hr]
    exact ih hrs

theorem ldmTransfer_denied {r : Reg} {a : Word} {s : State} {f : MemFault} (h : checkAccess s a 4 .read = some f) :
    ldmTransfer r a s = .error f := by
  rw [ldmTransfer, memRead_error_iff.mpr h]

theorem stmTransfer_denied {r : Reg} {a : Word} {s : State} {f : MemFault} (h : checkAccess s a 4 .write = some f) :
    stmTransfer r a s = .error f := memWrite_error_iff.mpr h

/-! ## Frames -/

/-- Everything but the general registers and memory is as before. -/
def SameSystem (s t : State) : Prop := SameVfp s t ∧ SameControl s t ∧ t.cpsr = s.cpsr

theorem SameSystem.refl (s : State) : SameSystem s s := ⟨⟨fun _ _ => rfl, rfl⟩, ⟨rfl, rfl, rfl, rfl, rfl⟩, rfl⟩

theorem SameSystem.setReg {s t : State} (h : SameSystem s t) (r : Reg) (v : Word) : SameSystem s (t.setReg r v) := h

theorem SameSystem.setMem {s t : State} (h : SameSystem s t) (m : Memory) : SameSystem s { t with mem := m } := h

theorem SameSystem.loadAll {s t : State} (h : SameSystem s t) (addr : Reg → Word) (rs : List Reg) :
    SameSystem s (loadAll addr rs t) := by
  induction rs generalizing t with
  | nil => exact h
  | cons r rs ih => exact ih (h.setReg r _)

@[simp] theorem loadAll_mem (addr : Reg → Word) (rs : List Reg) (s : State) : (loadAll addr rs s).mem = s.mem := by
  induction rs generalizing s with
  | nil => rfl
  | cons r rs ih => exact ih _

/-- What the loads of an LDM leave for the port to check. -/
theorem checkAccess_loadAll (addr : Reg → Word) (rs : List Reg) (s : State) (a : Word) (n : Nat) (kind : AccessKind) :
    checkAccess (loadAll addr rs s) a n kind = checkAccess s a n kind := by
  obtain ⟨-, ⟨-, -, hranges, hsetup, -⟩, -⟩ := (SameSystem.refl s).loadAll addr rs
  exact checkAccess_congr hranges hsetup a n kind

/-- A byte outside every stored word reads as before. -/
theorem read_storeAll_of_outside {v addr : Reg → Word} {rs : List Reg} {m : Memory} {b : Nat} (hm : Memory.wf m)
    (h : ∀ r ∈ rs, b < (addr r).toNat ∨ (addr r).toNat + 4 ≤ b) : (storeAll v addr rs m).read b = m.read b := by
  induction rs generalizing m with
  | nil => rfl
  | cons r rs ih =>
    obtain ⟨hr, hrs⟩ := List.forall_mem_cons.mp h
    exact (ih (Memory.writeN_wf _ _ _ hm) hrs).trans (Memory.read_writeN_of_outside _ _ _ _ hm hr)

/-- The base of a block transfer written back where its W bit says so (45_block_transfer.md R283). -/
def writeBase (wb : Bool) (rn : Reg) (v : Word) (t : State) : State := if wb then t.setReg rn v else t

@[simp] theorem writeBase_mem (wb : Bool) (rn : Reg) (v : Word) (t : State) : (writeBase wb rn v t).mem = t.mem := by
  cases wb <;> rfl

theorem reg_writeBase_base {wb : Bool} (h : wb = true) (rn : Reg) (v : Word) (t : State) :
    (writeBase wb rn v t).reg rn = v := by
  simp [writeBase, h]

theorem reg_writeBase_of_ne {wb : Bool} {rn r : Reg} (h : wb = true → r ≠ rn) (v : Word) (t : State) :
    (writeBase wb rn v t).reg r = t.reg r := by
  cases wb with
  | false => rfl
  | true => simp [writeBase, (h rfl).symm]

theorem SameSystem.writeBase {s t : State} (h : SameSystem s t) (wb : Bool) (rn : Reg) (v : Word) :
    SameSystem s (writeBase wb rn v t) := by
  cases wb with
  | false => exact h
  | true => exact h.setReg rn v

/-! ## The four modes at once -/

section

variable {i : Instr} {before up w : Bool} {rn : Reg} {list : BitVec 16} {s : State}

/-- The loads read memory as it was, and the write-back comes after the last of them (D18). -/
theorem ldmEffect (hi : exec i s = blockTransfer before up ldmTransfer w rn list s) :
    LdmEffect i before up w rn list s := by
  intro hallowed
  have hrun := blockTransfer_eq_transferAll before up ldmTransfer w rn list s
  rw [transferAll_ldm _ fun r hr => hallowed r (mem_transferOrder.mp hr)] at hrun
  refine ⟨writeBase w rn _ (loadAll _ (transferOrder up list) s), hi.trans hrun, fun r hr hne => ?_,
    fun hw => reg_writeBase_base hw .., fun r hr hne => ?_, fun b => by simp,
    ((SameSystem.refl s).loadAll _ _).writeBase _ _ _⟩
  · rw [reg_writeBase_of_ne hne, reg_loadAll, if_pos (mem_transferOrder.mpr hr)]
  · rw [reg_writeBase_of_ne hne, reg_loadAll, if_neg (by simp [mem_transferOrder, hr])]

/-- The words stored are apart, so that each keeps its register's value; the base is stored before the write-back
(D19). -/
theorem stmEffect (hs : Invariant s) (hi : exec i s = blockTransfer before up stmTransfer w rn list s) :
    StmEffect i before up w rn list s := by
  intro hallowed
  obtain ⟨hwf, -⟩ := hs
  have hrun := blockTransfer_eq_transferAll before up stmTransfer w rn list s
  rw [transferAll_stm _ fun r hr => hallowed r (mem_transferOrder.mp hr)] at hrun
  refine ⟨writeBase w rn _ { s with mem := storeAll _ _ (transferOrder up list) s.mem }, hi.trans hrun,
    fun r hr => ?_, fun hw => reg_writeBase_base hw .., fun r hne => reg_writeBase_of_ne hne .., fun b hb => ?_,
    ((SameSystem.refl s).setMem _).writeBase _ _ _⟩
  · rw [writeBase_mem]
    exact readN_storeAll hwf (transferOrder_apart before up _ list) (mem_transferOrder.mpr hr)
  · rw [writeBase_mem]
    exact read_storeAll_of_outside hwf fun r hr => hb r (mem_transferOrder.mp hr)

/-- The loads before the failing one are done, and no write-back (45_block_transfer.md R288). -/
theorem ldmStopsAt (hi : exec i s = blockTransfer before up ldmTransfer w rn list s) :
    LdmStopsAt i before up rn list s := by
  intro r0 f hr0 hdenied hallowed
  obtain ⟨pre, post, hsplit, hpre⟩ := transferOrder_split (up := up) hr0
  have hloads : ∀ r ∈ pre, Allowed s (blockSlot before up rn list s r) 4 .read :=
    fun r hr => and_imp.mpr (hallowed r) ((hpre r).mp hr)
  refine ⟨loadAll (blockSlot before up rn list s) pre s, ?_, fun r => ?_, fun b => by rw [loadAll_mem],
    (SameSystem.refl s).loadAll _ pre⟩
  · rw [hi, blockTransfer_eq_transferAll, hsplit]
    exact transferAll_stops (fun k => transferAll_ldm k hloads)
      (ldmTransfer_denied ((checkAccess_loadAll _ pre s _ _ _).trans hdenied))
  · simp only [reg_loadAll, hpre, Bool.and_eq_true]

/-- The stores before the failing one are done, and no write-back (45_block_transfer.md R288). -/
theorem stmStopsAt (hs : Invariant s) (hi : exec i s = blockTransfer before up stmTransfer w rn list s) :
    StmStopsAt i before up rn list s := by
  intro r0 f hr0 hdenied hallowed
  obtain ⟨hwf, -⟩ := hs
  obtain ⟨pre, post, hsplit, hpre⟩ := transferOrder_split (up := up) hr0
  have hapart := transferOrder_apart before up (s.rd rn s.setup.off.bdtBase) list
  rw [hsplit, List.pairwise_append] at hapart
  obtain ⟨hapart, -⟩ := hapart
  have hstores : ∀ r ∈ pre, Allowed s (blockSlot before up rn list s r) 4 .write :=
    fun r hr => and_imp.mpr (hallowed r) ((hpre r).mp hr)
  refine ⟨{ s with mem := storeAll (fun r => s.rd r s.setup.off.stmStore) (blockSlot before up rn list s) pre s.mem },
    ?_, fun r hr hbefore => ?_, fun b hb => ?_, fun _ _ => rfl, (SameSystem.refl s).setMem _⟩
  · rw [hi, blockTransfer_eq_transferAll, hsplit]
    exact transferAll_stops (fun k => transferAll_stm k hstores) (stmTransfer_denied hdenied)
  · exact readN_storeAll hwf hapart ((hpre r).mpr ⟨hr, hbefore⟩)
  · exact read_storeAll_of_outside hwf fun r hr => and_imp.mpr (hb r) ((hpre r).mp hr)

end

/-- Settles O40: each mode is `blockTransfer` with its loads. -/
theorem loadMultipleResults : Obligations.LoadMultipleResults := by
  intro c w rn list s hc
  exact ⟨ldmEffect (whenCond_passes _ hc), ldmEffect (whenCond_passes _ hc), ldmEffect (whenCond_passes _ hc),
    ldmEffect (whenCond_passes _ hc)⟩

/-- Settles O41: each mode is `blockTransfer` with its stores. -/
theorem storeMultipleResults : Obligations.StoreMultipleResults := by
  intro c w rn list s hc hs
  exact ⟨stmEffect hs (whenCond_passes _ hc), stmEffect hs (whenCond_passes _ hc), stmEffect hs (whenCond_passes _ hc),
    stmEffect hs (whenCond_passes _ hc)⟩

/-- Settles O42: the same in every mode, and the S bit is refused before any transfer. -/
theorem blockTransferStops : Obligations.BlockTransferStops := by
  intro c w rn list b s hc hs
  exact ⟨ldmStopsAt (whenCond_passes _ hc), ldmStopsAt (whenCond_passes _ hc),
    ldmStopsAt (whenCond_passes _ hc), ldmStopsAt (whenCond_passes _ hc),
    stmStopsAt hs (whenCond_passes _ hc), stmStopsAt hs (whenCond_passes _ hc),
    stmStopsAt hs (whenCond_passes _ hc), stmStopsAt hs (whenCond_passes _ hc),
    whenCond_passes (unimplemented .blockTransferSBit) hc⟩

end Sys2Proof.Proofs
end

section
/-!
PROOFS. The software interrupt (47_system.md R320, 60_exceptions.md R433, R437): the Exit an SWI leaves, and the step
of the next run from there.
-/

namespace Sys2Proof.Proofs

open Sys2Proof.Machine Sys2Proof.Safety

theorem exec_swi {c : Cond} {s : State} (hc : Passes c s) (comment : BitVec 24) :
    exec (.swi c comment) s = .next { s with run := .exited (Config.swiMap comment) } :=
  whenCond_passes (exit (Config.swiMap comment)) hc

/-- A step starts Running, so the run state it finds does not matter (60_exceptions.md R437). -/
theorem step_withRun (s : State) (r : RunState) : step { s with run := r } = step { s with run := .running } :=
  calc step { s with run := r }
      = step { s with run := r }.resume := (step_resume _).symm
    _ = step { s with run := .running } := rfl

/-- Settles O45: an SWI that runs writes only its Exit, and resuming puts the run state back to Running. -/
theorem swiExitsAndResumes : Obligations.SwiExitsAndResumes := by
  intro c comment s hc
  exact ⟨exec_swi hc comment, step_withRun s _⟩

end Sys2Proof.Proofs
end

section
/-!
PROOFS. The VFP unit's words (49_vfp.md R364, R370, R380, R406, R417, R418): coprocessor words as the decoder takes
them, and the fields of each layout of the encoder.
-/

namespace Sys2Proof.Proofs

open Sys2Proof.Safety

/-! ## Coprocessor words -/

theorem isCdt_iff (w : Word) : Body.isCdt (bodyOf w) = true ↔ bits w 25 3 = 6 := by
  simp only [Body.isCdt, hits_bodyOf, bits_eq_iff, Nat.forall_lt_succ_right]
  grind

theorem isCdo_iff (w : Word) : Body.isCdo (bodyOf w) = true ↔ bits w 24 4 = 14 ∧ bit w 4 = false := by
  simp only [Body.isCdo, hits_bodyOf, bits_eq_iff, Nat.forall_lt_succ_right]
  grind

theorem isCrt_iff (w : Word) : Body.isCrt (bodyOf w) = true ↔ bits w 24 4 = 14 ∧ bit w 4 = true := by
  simp only [Body.isCrt, hits_bodyOf, bits_eq_iff, Nat.forall_lt_succ_right]
  grind

section

variable {w : Word}

theorem decodeVfp_cdt (h : Body.isCdt (bodyOf w) = true) (hv : isVfpWord w = true) :
    decodeVfp w = decodeDataTransfer w := by
  have h25 : bit w 25 = false := bit_of_hits h 25 (by decide) rfl
  simp [decodeVfp, hv, h25]

theorem decodeVfp_cdo (h : Body.isCdo (bodyOf w) = true) (hv : isVfpWord w = true) :
    decodeVfp w = decodeDataOperation w := by
  have h25 : bit w 25 = true := bit_of_hits h 25 (by decide) rfl
  have h4 : bit w 4 = false := bit_of_hits h 4 (by decide) rfl
  simp [decodeVfp, hv, h25, h4]

theorem decodeVfp_crt (h : Body.isCrt (bodyOf w) = true) (hv : isVfpWord w = true) :
    decodeVfp w = decodeRegisterTransfer w := by
  have h25 : bit w 25 = true := bit_of_hits h 25 (by decide) rfl
  have h4 : bit w 4 = true := bit_of_hits h 4 (by decide) rfl
  simp [decodeVfp, hv, h25, h4]

theorem classify_coprocessor (h : IsCoprocessorWord w) :
    classify w = some .cdt ∨ classify w = some .cdo ∨ classify w = some .crt := by
  have h27 : bit w 27 = true := by rcases h with h | h | h <;> exact bit_of_hits h 27 (by decide) rfl
  have h26 : bit w 26 = true := by rcases h with h | h | h <;> exact bit_of_hits h 26 (by decide) rfl
  rw [classify_high (by simp [h27])]
  rcases h with h | h | h
  · simp [highFormat, h27, h26, bit_of_hits h 25 (by decide) rfl]
  · simp [highFormat, h27, h26, bit_of_hits h 25 (by decide) rfl, bit_of_hits h 24 (by decide) rfl,
      bit_of_hits h 4 (by decide) rfl]
  · simp [highFormat, h27, h26, bit_of_hits h 25 (by decide) rfl, bit_of_hits h 24 (by decide) rfl,
      bit_of_hits h 4 (by decide) rfl]

/-- The engine's row of a coprocessor word is one of its five generic instructions. -/
theorem decodeEngine_coprocessor (h : IsCoprocessorWord w) : ∃ i, decodeEngine w = .ok i ∧ i.isGeneric = true := by
  rcases classify_coprocessor h with h | h | h <;> rw [decodeEngine, h]
  · exact ⟨_, rfl, by unfold decodeCdt; split <;> rfl⟩
  · exact ⟨_, rfl, rfl⟩
  · exact ⟨_, rfl, by unfold decodeCrt; split <;> rfl⟩

/-- A coprocessor word with one of the unit's numbers decodes to the unit's row. -/
theorem decodeWord_vfp (h : IsCoprocessorWord w) (hv : isVfpWord w = true) : decodeWord w = .ok (decodeVfp w) := by
  obtain ⟨i, hi, hg⟩ := decodeEngine_coprocessor h
  simp [decodeWord, hi, hg, hv]

/-- `cp_num` by its three fixed bits and the precision (49_vfp.md R364). -/
theorem cpNumOf_eq (h : bits w 9 3 = 5) : cpNumOf w = if bit w 8 then 11 else 10 := by
  simp only [cpNumOf, bits_eq_iff, Nat.forall_lt_succ_right] at h ⊢
  cases h8 : bit w 8 <;> simp_all

end

/-- A coprocessor word that the unit decodes to an instruction. -/
def DecodesTo (w : Word) (i : Instr) : Prop := IsCoprocessorWord w ∧ decodeVfp w = i

/-! ## Register numbers in a word -/

@[simp] theorem sreg_parts (r : SReg) : r.extractLsb' 1 4 ++ r.extractLsb' 0 1 = r :=
  BitVec.extractLsb'_append_extractLsb'

@[simp] theorem bits_putSReg_apart (lo x : Nat) (r : SReg) (p n : Nat) (hlo : lo + 4 ≤ p ∨ p + n ≤ lo)
    (hx : x + 1 ≤ p ∨ p + n ≤ x) : bits (putSReg lo x r) p n = 0 := by
  rw [putSReg, bits_or, bits_put_apart _ _ _ _ hlo, bits_put_apart _ _ _ _ hx]
  simp

@[simp] theorem bit_putSReg_apart (lo x : Nat) (r : SReg) (i : Nat) (hlo : lo + 4 ≤ i ∨ i + 1 ≤ lo)
    (hx : x + 1 ≤ i ∨ i + 1 ≤ x) : bit (putSReg lo x r) i = false :=
  bits_eq_iff.mp (bits_putSReg_apart lo x r i 1 hlo hx) 0 Nat.one_pos

@[simp] theorem sregAt_or (v w : Word) (lo x : Nat) : sregAt (v ||| w) lo x = sregAt v lo x ||| sregAt w lo x := by
  have happend : ∀ (a c : BitVec 4) (b d : BitVec 1), (a ||| c) ++ (b ||| d) = a ++ b ||| c ++ d := by decide
  simp only [sregAt, bits_or, happend]

@[simp] theorem sregAt_put_apart {m : Nat} (p : Nat) (v : BitVec m) (lo x : Nat) (hlo : p + m ≤ lo ∨ lo + 4 ≤ p)
    (hx : p + m ≤ x ∨ x + 1 ≤ p) : sregAt (put p v) lo x = 0 := by
  rw [sregAt, bits_put_apart _ _ _ _ hlo, bits_put_apart _ _ _ _ hx]
  rfl

@[simp] theorem sregAt_putSReg_same (lo x : Nat) (r : SReg) (hlo : lo + 4 ≤ 32) (hx : x + 1 ≤ 32)
    (h : lo + 4 ≤ x ∨ x + 1 ≤ lo) : sregAt (putSReg lo x r) lo x = r := by
  rw [sregAt, putSReg, bits_or, bits_or, bits_put_same _ _ hlo, bits_put_same _ _ hx, bits_put_apart _ _ _ _ h.symm,
    bits_put_apart _ _ _ _ h]
  simp

@[simp] theorem sregAt_putSReg_apart (lo x : Nat) (r : SReg) (lo' x' : Nat) (hll : lo + 4 ≤ lo' ∨ lo' + 4 ≤ lo)
    (hxl : x + 1 ≤ lo' ∨ lo' + 4 ≤ x) (hlx : lo + 4 ≤ x' ∨ x' + 1 ≤ lo) (hxx : x + 1 ≤ x' ∨ x' + 1 ≤ x) :
    sregAt (putSReg lo x r) lo' x' = 0 := by
  rw [sregAt, bits_putSReg_apart _ _ _ _ _ hll hxl, bits_putSReg_apart _ _ _ _ _ hlx hxx]
  rfl

/-! ## Data operations -/

@[simp] theorem pqrs_parts (p : BitVec 4) : p.extractLsb' 3 1 ++ p.extractLsb' 1 2 ++ p.extractLsb' 0 1 = p := by
  revert p; decide

/-- The operands of a data operation leave the other fields of its layout alone (49_vfp.md R370). -/
def IsDataOperands (x : Word) : Prop :=
  bits x 28 4 = 0 ∧ bits x 24 4 = 0 ∧ bits x 23 1 = 0 ∧ bits x 20 2 = 0 ∧ bits x 9 3 = 0 ∧ bit x 8 = false ∧
    bits x 6 1 = 0 ∧ bit x 4 = false

theorem vfpOp_fields (c : Cond) (pqrs : BitVec 4) (dp : Bool) {x : Word} (h : IsDataOperands x) :
    let w := vfpOp c pqrs dp x
    Body.isCdo (bodyOf w) = true ∧ condOf w = c ∧ cpNumOf w = (if dp then 11 else 10) ∧ pqrsOf w = pqrs ∧
      extOf w = extOf x ∧ sregAt w 12 22 = sregAt x 12 22 ∧ sregAt w 16 7 = sregAt x 16 7 ∧
      sregAt w 0 5 = sregAt x 0 5 ∧ bits w 12 4 = bits x 12 4 ∧ bits w 16 4 = bits x 16 4 ∧ bits w 0 4 = bits x 0 4 ∧
      bit w 22 = bit x 22 ∧ bit w 7 = bit x 7 ∧ bit w 5 = bit x 5 := by
  obtain ⟨h28, h24, h23, h20, h9, h8, h6, h4⟩ := h
  refine ⟨?_, condOf_eq (vfpOp_cond c pqrs dp x h28), ?_, ?_, ?_⟩
  · simp [isCdo_iff, vfpOp, withCond, putBit, h24, h4]
  · have hw : bits (vfpOp c pqrs dp x) 9 3 = 5 := by simp [vfpOp, withCond, putBit, h9]
    rw [cpNumOf_eq hw]
    simp [vfpOp, withCond, putBit, h8]
  · simp [vfpOp, withCond, putBit, pqrsOf, h23, h20, h6]
  · simp [vfpOp, withCond, putBit, extOf]

theorem vfpOp_decodesTo {c : Cond} {pqrs : BitVec 4} {dp : Bool} {x : Word} {i : Instr} (h : IsDataOperands x)
    (hi : decodeDataOperation (vfpOp c pqrs dp x) = i) : DecodesTo (vfpOp c pqrs dp x) i := by
  obtain ⟨hcdo, -, hnum, -⟩ := vfpOp_fields c pqrs dp h
  exact ⟨.inr (.inl hcdo), (decodeVfp_cdo hcdo (by cases dp <;> simp [isVfpWord, hnum])).trans hi⟩

theorem isDataOperands_singles (d n m : SReg) :
    IsDataOperands (putSReg 12 22 d ||| putSReg 16 7 n ||| putSReg 0 5 m) := by
  simp [IsDataOperands]

theorem isDataOperands_doubles (d n m : DReg) : IsDataOperands (put 12 d ||| put 16 n ||| put 0 m) := by
  simp [IsDataOperands]

/-! ## Extension operations -/

/-- The operands of an extension operation leave its opcode's fields alone too (49_vfp.md R380). -/
def IsExtOperands (x : Word) : Prop := IsDataOperands x ∧ bits x 16 4 = 0 ∧ bits x 7 1 = 0

theorem IsExtOperands.withOpcode {x : Word} (h : IsExtOperands x) (ext : BitVec 5) :
    IsDataOperands (put 16 (ext.extractLsb' 1 4) ||| put 7 (ext.extractLsb' 0 1) ||| x) := by
  obtain ⟨hx, -⟩ := h
  simpa [IsDataOperands] using hx

theorem vfpExt_fields (c : Cond) (ext : BitVec 5) (dp : Bool) {x : Word} (h : IsExtOperands x) :
    let w := vfpExt c ext dp x
    condOf w = c ∧ extOf w = ext ∧ sregAt w 12 22 = sregAt x 12 22 ∧ sregAt w 0 5 = sregAt x 0 5 ∧
      bits w 12 4 = bits x 12 4 ∧ bits w 0 4 = bits x 0 4 ∧ bit w 22 = bit x 22 ∧ bit w 5 = bit x 5 := by
  obtain ⟨-, hc, -, -, hext, hsd, -, hsm, hdd, -, hdm, h22, -, h5⟩ := vfpOp_fields c 15 dp (h.withOpcode ext)
  obtain ⟨-, h16, h7⟩ := h
  refine ⟨hc, hext.trans ?_, hsd.trans ?_, hsm.trans ?_, hdd.trans ?_, hdm.trans ?_, h22.trans ?_, h5.trans ?_⟩
  · simp [extOf, h16, h7]
  all_goals simp

theorem vfpExt_decodesTo {c : Cond} {ext : BitVec 5} {dp : Bool} {x : Word} {i : Instr} (h : IsExtOperands x)
    (hi : (if dp then decodeExtDouble (vfpExt c ext dp x) else decodeExtSingle (vfpExt c ext dp x)) = i) :
    DecodesTo (vfpExt c ext dp x) i := by
  refine vfpOp_decodesTo (h.withOpcode ext) (Eq.trans ?_ hi)
  obtain ⟨-, -, hnum, hpqrs, -⟩ := vfpOp_fields c 15 dp (h.withOpcode ext)
  rw [vfpExt, decodeDataOperation, hpqrs, hnum]
  cases dp <;> rfl

theorem isExtOperands_single (d : SReg) : IsExtOperands (putSReg 12 22 d) := by
  simp [IsExtOperands, IsDataOperands]

theorem isExtOperands_double (d : DReg) : IsExtOperands (put 12 d) := by
  simp [IsExtOperands, IsDataOperands]

theorem isExtOperands_singles (d m : SReg) : IsExtOperands (putSReg 12 22 d ||| putSReg 0 5 m) := by
  simp [IsExtOperands, IsDataOperands]

theorem isExtOperands_doubles (d m : DReg) : IsExtOperands (put 12 d ||| put 0 m) := by
  simp [IsExtOperands, IsDataOperands]

theorem isExtOperands_double_single (d : DReg) (m : SReg) : IsExtOperands (put 12 d ||| putSReg 0 5 m) := by
  simp [IsExtOperands, IsDataOperands]

theorem isExtOperands_single_double (d : SReg) (m : DReg) : IsExtOperands (putSReg 12 22 d ||| put 0 m) := by
  simp [IsExtOperands, IsDataOperands]

/-! ## Register transfers -/

/-- The operand of a register transfer leaves the other fields of its layout alone (49_vfp.md R417). -/
def IsTransferOperand (x : Word) : Prop :=
  bits x 28 4 = 0 ∧ bits x 24 4 = 0 ∧ bits x 21 3 = 0 ∧ bit x 20 = false ∧ bits x 12 4 = 0 ∧ bits x 9 3 = 0 ∧
    bit x 8 = false ∧ bit x 4 = false

theorem vfpTransfer_fields (c : Cond) (dp : Bool) (opc : BitVec 3) (l : Bool) (rd : Reg) {x : Word}
    (h : IsTransferOperand x) :
    let w := vfpTransfer c dp opc l rd x
    Body.isCrt (bodyOf w) = true ∧ condOf w = c ∧ cpNumOf w = (if dp then 11 else 10) ∧ bits w 21 3 = opc ∧
      bit w 20 = l ∧ bits w 12 4 = rd ∧ bits w 16 4 = bits x 16 4 ∧ sregAt w 16 7 = sregAt x 16 7 ∧
      bit w 7 = bit x 7 := by
  obtain ⟨h28, h24, h21, h20, h12, h9, h8, h4⟩ := h
  refine ⟨?_, condOf_eq (vfpTransfer_cond c dp opc l rd x h28), ?_, ?_⟩
  · simp [isCrt_iff, vfpTransfer, withCond, putBit, h24]
  · have hw : bits (vfpTransfer c dp opc l rd x) 9 3 = 5 := by simp [vfpTransfer, withCond, putBit, h9]
    rw [cpNumOf_eq hw]
    simp [vfpTransfer, withCond, putBit, h8]
  · simp [vfpTransfer, withCond, putBit, h21, h20, h12]

theorem vfpTransfer_decodesTo {c : Cond} {dp : Bool} {opc : BitVec 3} {l : Bool} {rd : Reg} {x : Word} {i : Instr}
    (h : IsTransferOperand x) (hi : decodeRegisterTransfer (vfpTransfer c dp opc l rd x) = i) :
    DecodesTo (vfpTransfer c dp opc l rd x) i := by
  obtain ⟨hcrt, -, hnum, -⟩ := vfpTransfer_fields c dp opc l rd h
  exact ⟨.inr (.inr hcrt), (decodeVfp_crt hcrt (by cases dp <;> simp [isVfpWord, hnum])).trans hi⟩

theorem isTransferOperand_single (n : SReg) : IsTransferOperand (putSReg 16 7 n) := by simp [IsTransferOperand]

theorem isTransferOperand_double (n : DReg) : IsTransferOperand (put 16 n) := by simp [IsTransferOperand]

/-! ## Two-register transfers -/

/-- The operand of a two-register transfer is in bits 5 and 3:0 (49_vfp.md R406). -/
def IsTwoOperand (x : Word) : Prop :=
  bits x 28 4 = 0 ∧ bits x 25 3 = 0 ∧ bits x 21 7 = 0 ∧ bit x 20 = false ∧ bits x 16 4 = 0 ∧ bits x 12 4 = 0 ∧
    bits x 9 3 = 0 ∧ bit x 8 = false ∧ bits x 6 2 = 0 ∧ bit x 4 = false

theorem vfpTwo_fields (c : Cond) (dp l : Bool) (rn rd : Reg) {x : Word} (h : IsTwoOperand x) :
    let w := vfpTwo c dp l rn rd x
    bits w 21 7 = 0x62 ∧ condOf w = c ∧ cpNumOf w = (if dp then 11 else 10) ∧ bit w 20 = l ∧
      bits w 16 4 = rn ∧ bits w 12 4 = rd ∧ bits w 6 2 = 0 ∧ bit w 4 = true ∧ bit w 5 = bit x 5 ∧
      sregAt w 0 5 = sregAt x 0 5 ∧ bits w 0 4 = bits x 0 4 := by
  obtain ⟨h28, h25, h21, h20, h16, h12, h9, h8, h6, h4⟩ := h
  refine ⟨?_, condOf_eq (vfpTwo_cond c dp l rn rd x h28), ?_, ?_⟩
  · simp [vfpTwo, withCond, putBit, h21]
  · have hw : bits (vfpTwo c dp l rn rd x) 9 3 = 5 := by simp [vfpTwo, withCond, putBit, h9]
    rw [cpNumOf_eq hw]
    simp [vfpTwo, withCond, putBit, h8]
  · simp [vfpTwo, withCond, putBit, h20, h16, h12, h6]

/-- A word with the two-register layout's top bits is decoded as one (49_vfp.md R406). -/
theorem decodesTo_of_twoRegister {w : Word} {i : Instr} (htwo : bits w 21 7 = 0x62) (hv : isVfpWord w = true)
    (hi : decodeTwoRegister w = i) : DecodesTo w i := by
  have hcdt : Body.isCdt (bodyOf w) = true := by
    rw [isCdt_iff]
    simp only [bits_eq_iff, Nat.forall_lt_succ_right] at htwo ⊢
    simp_all
  have h24 : bit w 24 = false := bits_eq_iff.mp htwo 3 (by decide)
  have h23 : bit w 23 = false := bits_eq_iff.mp htwo 2 (by decide)
  have h22 : bit w 22 = true := bits_eq_iff.mp htwo 1 (by decide)
  have h21 : bit w 21 = false := bits_eq_iff.mp htwo 0 (by decide)
  refine ⟨.inl hcdt, (decodeVfp_cdt hcdt hv).trans ?_⟩
  rw [decodeDataTransfer, h24, h23, h22, h21]
  exact hi

theorem vfpTwo_decodesTo {c : Cond} {dp l : Bool} {rn rd : Reg} {x : Word} {i : Instr} (h : IsTwoOperand x)
    (hi : decodeTwoRegister (vfpTwo c dp l rn rd x) = i) : DecodesTo (vfpTwo c dp l rn rd x) i := by
  obtain ⟨htwo, -, hnum, -⟩ := vfpTwo_fields c dp l rn rd h
  exact decodesTo_of_twoRegister htwo (by cases dp <;> simp [isVfpWord, hnum]) hi

theorem isTwoOperand_single (m : SReg) : IsTwoOperand (putSReg 0 5 m) := by simp [IsTwoOperand]

theorem isTwoOperand_double (m : DReg) : IsTwoOperand (put 0 m) := by simp [IsTwoOperand]

/-! ## Loads and stores -/

/-- The operand of a load or store is in bits 22, 15:12 and 7:0 (49_vfp.md R418). -/
def IsMemOperand (x : Word) : Prop :=
  bits x 28 4 = 0 ∧ bits x 25 3 = 0 ∧ bit x 24 = false ∧ bit x 23 = false ∧ bit x 21 = false ∧ bit x 20 = false ∧
    bits x 16 4 = 0 ∧ bits x 9 3 = 0 ∧ bit x 8 = false

theorem vfpMem_fields (c : Cond) (dp p u w l : Bool) (rn : Reg) {x : Word} (h : IsMemOperand x) :
    let v := vfpMem c dp p u w l rn x
    Body.isCdt (bodyOf v) = true ∧ condOf v = c ∧ cpNumOf v = (if dp then 11 else 10) ∧ bit v 24 = p ∧
      bit v 23 = u ∧ bit v 21 = w ∧ bit v 20 = l ∧ bits v 16 4 = rn ∧ sregAt v 12 22 = sregAt x 12 22 ∧
      bits v 12 4 = bits x 12 4 ∧
      bit v 22 = bit x 22 ∧ bits v 0 8 = bits x 0 8 ∧ bits v 1 7 = bits x 1 7 ∧ bit v 0 = bit x 0 := by
  obtain ⟨h28, h25, h24, h23, h21, h20, h16, h9, h8⟩ := h
  refine ⟨?_, condOf_eq (vfpMem_cond c dp p u w l rn x h28), ?_, ?_⟩
  · simp [isCdt_iff, vfpMem, withCond, putBit, h25]
  · have hw : bits (vfpMem c dp p u w l rn x) 9 3 = 5 := by simp [vfpMem, withCond, putBit, h9]
    rw [cpNumOf_eq hw]
    simp [vfpMem, withCond, putBit, h8]
  · simp [vfpMem, withCond, putBit, h24, h23, h21, h20, h16]

theorem vfpMem_decodesTo {c : Cond} {dp p u w l : Bool} {rn : Reg} {x : Word} {i : Instr} (h : IsMemOperand x)
    (hi : decodeDataTransfer (vfpMem c dp p u w l rn x) = i) : DecodesTo (vfpMem c dp p u w l rn x) i := by
  obtain ⟨hcdt, -, hnum, -⟩ := vfpMem_fields c dp p u w l rn h
  exact ⟨.inl hcdt, (decodeVfp_cdt hcdt (by cases dp <;> simp [isVfpWord, hnum])).trans hi⟩

theorem isMemOperand_single (d : SReg) (off : BitVec 8) : IsMemOperand (putSReg 12 22 d ||| put 0 off) := by
  simp [IsMemOperand]

theorem isMemOperand_double (d : DReg) (off : BitVec 8) : IsMemOperand (put 12 d ||| put 0 off) := by
  simp [IsMemOperand]

theorem isMemOperand_doubles (d : DReg) (n : BitVec 7) : IsMemOperand (put 12 d ||| put 1 n) := by
  simp [IsMemOperand]

/-- A count of doubles is no empty list of words (49_vfp.md R419). -/
@[simp] theorem bits_put_one_eq_zero (n : BitVec 7) : bits (put 1 n) 0 8 = 0#8 ↔ n = 0#7 := by
  refine ⟨fun h => ?_, ?_⟩
  · rw [← bits_put_same 1 n (by decide), bits_eq_iff]
    intro i hi
    simpa [Nat.add_comm] using bits_eq_iff.mp h (1 + i) (by omega)
  · rintro rfl
    rfl

end Sys2Proof.Proofs
end

section
/-!
PROOFS. The round trip of the VFP unit's list (49_vfp.md R361, R364, R370, R380, R406, R416 to R419): the rows that
carry operands, and the fault rows, which keep a word's body.
-/

namespace Sys2Proof.Proofs

open Sys2Proof.Safety

/-! ## Rows with operands -/

/-- The rows of the unit's list that keep a word's body. -/
def isVfpFault : Instr → Bool
  | .unimplVfpOpcode .. | .unimplVfpRegister .. | .unimplNoCoprocessor .. | .unimplVfpAddressingMode ..
  | .unimplVfpRegisterList .. => true
  | _ => false

/-- Decode of encode for the rows that carry operands. -/
theorem encode_decodesTo_of_operands {i : Instr} (hwf : i.wf = true) (hl : i.level = .vfp) (hf : isVfpFault i = false) :
    DecodesTo (encode i) i := by
  cases i
  case fmacs c d n m | fnmacs c d n m | fmscs c d n m | fnmscs c d n m | fmuls c d n m | fnmuls c d n m | fadds c d n m
      | fsubs c d n m | fdivs c d n m =>
    have h := isDataOperands_singles d n m
    exact vfpOp_decodesTo h (by simp [decodeDataOperation, vfpOp_fields c _ _ h, sd, sn, sm])
  case fmacd c d n m | fnmacd c d n m | fmscd c d n m | fnmscd c d n m | fmuld c d n m | fnmuld c d n m | faddd c d n m
      | fsubd c d n m | fdivd c d n m =>
    have h := isDataOperands_doubles d n m
    exact vfpOp_decodesTo h (by simp [decodeDataOperation, vfpOp_fields c _ _ h, dd, dn, dm])
  case fcpys c d m | fabss c d m | fnegs c d m | fsqrts c d m | fcmps c d m | fcmpes c d m | fuitos c d m
      | fsitos c d m | ftouis c d m | ftouizs c d m | ftosis c d m | ftosizs c d m =>
    have h := isExtOperands_singles d m
    exact vfpExt_decodesTo h (by simp [decodeExtSingle, vfpExt_fields c _ _ h, sd, sm])
  case fcmpzs c d | fcmpezs c d =>
    have h := isExtOperands_single d
    exact vfpExt_decodesTo h (by simp [decodeExtSingle, vfpExt_fields c _ _ h, sd])
  case fcvtds c d m =>
    have h := isExtOperands_double_single d m
    exact vfpExt_decodesTo h (by simp [decodeExtSingle, vfpExt_fields c _ _ h, dd, sm])
  case fcpyd c d m | fabsd c d m | fnegd c d m | fsqrtd c d m | fcmpd c d m | fcmped c d m =>
    have h := isExtOperands_doubles d m
    exact vfpExt_decodesTo h (by simp [decodeExtDouble, vfpExt_fields c _ _ h, dd, dm])
  case fcmpzd c d | fcmpezd c d =>
    have h := isExtOperands_double d
    exact vfpExt_decodesTo h (by simp [decodeExtDouble, vfpExt_fields c _ _ h, dd])
  case fuitod c d m | fsitod c d m =>
    have h := isExtOperands_double_single d m
    exact vfpExt_decodesTo h (by simp [decodeExtDouble, vfpExt_fields c _ _ h, dd, sm])
  case fcvtsd c d m | ftouid c d m | ftouizd c d m | ftosid c d m | ftosizd c d m =>
    have h := isExtOperands_single_double d m
    exact vfpExt_decodesTo h (by simp [decodeExtDouble, vfpExt_fields c _ _ h, sd, dm])
  case fmsr c n rd | fmrs c n rd =>
    have h := isTransferOperand_single n
    exact vfpTransfer_decodesTo h (by simp [decodeRegisterTransfer, vfpTransfer_fields c _ _ _ rd h, sn])
  case fmdlr c n rd | fmrdl c n rd | fmdhr c n rd | fmrdh c n rd | fmxr c n rd =>
    have h := isTransferOperand_double n
    exact vfpTransfer_decodesTo h (by simp [decodeRegisterTransfer, vfpTransfer_fields c _ _ _ rd h, dn])
  case fmrx c fn rd =>
    have h := isTransferOperand_double fn
    have hstat : ¬fn = 1#4 ∨ ¬rd = 15#4 := by simpa [Instr.wf] using hwf
    exact vfpTransfer_decodesTo h
      (by simpa [decodeRegisterTransfer, vfpTransfer_fields c _ _ _ rd h, ← not_and_or] using hstat)
  case fmstat c =>
    have h := isTransferOperand_double 1#4
    exact vfpTransfer_decodesTo h (by simp [decodeRegisterTransfer, vfpTransfer_fields c _ _ _ _ h])
  case fmsrr c rn rd m | fmrrs c rn rd m =>
    have h := isTwoOperand_single m
    have hm : m ≠ 31#5 := by simpa [Instr.wf] using hwf
    exact vfpTwo_decodesTo h (by simp [decodeTwoRegister, vfpTwo_fields c _ _ rn rd h, sm, hm])
  case fmdrr c rn rd m | fmrrd c rn rd m =>
    have h := isTwoOperand_double m
    exact vfpTwo_decodesTo h (by simp [decodeTwoRegister, vfpTwo_fields c _ _ rn rd h, dm])
  case flds c u rn d off | fsts c u rn d off =>
    have h := isMemOperand_single d off
    exact vfpMem_decodesTo h (by simp [decodeDataTransfer, decodeOffsetTransfer, vfpMem_fields c _ _ _ _ _ rn h, sd])
  case fldd c u rn d off | fstd c u rn d off =>
    have h := isMemOperand_double d off
    exact vfpMem_decodesTo h (by simp [decodeDataTransfer, decodeOffsetTransfer, vfpMem_fields c _ _ _ _ _ rn h, dd])
  case fldmias | fstmias | fldmdbs | fstmdbs =>
    rename_i rn f n
    have h := isMemOperand_single f n
    have hn : n ≠ 0#8 := by simpa [Instr.wf] using hwf
    exact vfpMem_decodesTo h
      (by simp [decodeDataTransfer, decodeMultipleTransfer, vfpMem_fields _ _ _ _ _ _ rn h, sd, hn])
  case fldmiad | fstmiad | fldmdbd | fstmdbd =>
    rename_i rn f n
    have h := isMemOperand_doubles f n
    have hn : n ≠ 0#7 := by simpa [Instr.wf] using hwf
    exact vfpMem_decodesTo h
      (by simp [decodeDataTransfer, decodeMultipleTransfer, vfpMem_fields _ _ _ _ _ _ rn h, dd, hn])
  case unimplVfpOpcode | unimplVfpRegister | unimplNoCoprocessor | unimplVfpAddressingMode | unimplVfpRegisterList =>
    exact Bool.noConfusion hf
  all_goals exact Level.noConfusion hl

/-! ## Rows that keep a word's body -/

section

variable {w : Word}

theorem isBadDataOpcode_iff (w : Word) : Body.isBadDataOpcode (bodyOf w) = true ↔
    9 ≤ (pqrsOf w).toNat ∧ (pqrsOf w).toNat ≤ 14 ∨ (pqrsOf w).toNat = 15 ∧
      (extOf w).toNat ∉ [0, 1, 2, 3, 8, 9, 10, 11, 15, 16, 17, 24, 25, 26, 27] := by
  have h15 : pqrsOf w = 15#4 ↔ (pqrsOf w).toNat = 15 := BitVec.toNat_inj.symm
  rw [Body.isBadDataOpcode, pqrs_bodyOf, ext_bodyOf]
  simp [h15]

theorem decodeExtSingle_bad (h : (extOf w).toNat ∉ [0, 1, 2, 3, 8, 9, 10, 11, 15, 16, 17, 24, 25, 26, 27]) :
    decodeExtSingle w = .unimplVfpOpcode (condOf w) (bodyOf w) := by
  unfold decodeExtSingle
  split <;> simp_all

theorem decodeExtDouble_bad (h : (extOf w).toNat ∉ [0, 1, 2, 3, 8, 9, 10, 11, 15, 16, 17, 24, 25, 26, 27]) :
    decodeExtDouble w = .unimplVfpOpcode (condOf w) (bodyOf w) := by
  unfold decodeExtDouble
  split <;> simp_all

theorem decodeDataOperation_bad (h : Body.isBadDataOpcode (bodyOf w) = true) :
    decodeDataOperation w = .unimplVfpOpcode (condOf w) (bodyOf w) := by
  rw [isBadDataOpcode_iff] at h
  unfold decodeDataOperation
  split
  case h_10 hp =>
    obtain ⟨-, hext⟩ := h.resolve_left (by omega)
    rw [decodeExtSingle_bad hext, decodeExtDouble_bad hext, ite_self]
  case h_11 => rfl
  all_goals omega

theorem decodeRegisterTransfer_bad (h : Body.isBadTransferOpcode (bodyOf w) = true) :
    decodeRegisterTransfer w = .unimplVfpOpcode (condOf w) (bodyOf w) := by
  rw [isBadTransferOpcode_bodyOf] at h
  unfold decodeRegisterTransfer
  split
  case h_9 => rfl
  all_goals simp_all

theorem decodesTo_unimplVfpOpcode (h : Body.isVfpOpcode (bodyOf w) = true) :
    DecodesTo w (.unimplVfpOpcode (condOf w) (bodyOf w)) := by
  rw [Body.isVfpOpcode, ← isVfpWord_eq, Bool.and_eq_true, Bool.or_eq_true, Bool.and_eq_true, Bool.and_eq_true] at h
  obtain ⟨hv, ⟨hcdo, hop⟩ | ⟨hcrt, hop⟩⟩ := h
  · exact ⟨.inr (.inl hcdo), (decodeVfp_cdo hcdo hv).trans (decodeDataOperation_bad hop)⟩
  · exact ⟨.inr (.inr hcrt), (decodeVfp_crt hcrt hv).trans (decodeRegisterTransfer_bad hop)⟩

theorem decodesTo_unimplNoCoprocessor (h : Body.isNoCoprocessor (bodyOf w) = true) :
    DecodesTo w (.unimplNoCoprocessor (condOf w) (bodyOf w)) := by
  rw [Body.isNoCoprocessor, ← isVfpWord_eq, Bool.and_eq_true, Bool.or_eq_true, Bool.or_eq_true, or_assoc] at h
  obtain ⟨hw, hv⟩ := h
  exact ⟨hw, by rw [decodeVfp, hv, if_pos rfl]⟩

/-! A double operand whose extension bit is 1 (49_vfp.md R364). -/

theorem decodeExtSingle_badOperand (hp : (pqrsOf w).toNat = 15) (hs : cpNumOf w = 10)
    (hx : Body.isBadDoubleOperand (bodyOf w) = true) :
    decodeExtSingle w = .unimplVfpRegister (condOf w) (bodyOf w) := by
  rw [isBadDoubleOperand_of_ext hp, hs] at hx
  unfold decodeExtSingle
  split
  case h_9 he => rw [he] at hx; exact if_pos hx
  case h_16 => simp_all
  all_goals
    rename_i he
    rw [he] at hx
    cases hx

theorem decodeExtDouble_badOperand (hp : (pqrsOf w).toNat = 15) (hd : cpNumOf w = 11)
    (hop : Body.isBadDataOpcode (bodyOf w) = false) (hx : Body.isBadDoubleOperand (bodyOf w) = true) :
    decodeExtDouble w = .unimplVfpRegister (condOf w) (bodyOf w) := by
  rw [isBadDoubleOperand_of_ext hp, hd] at hx
  rw [isBadDataOpcode_of_ext hp] at hop
  unfold decodeExtDouble
  split
  case h_16 => simp_all
  all_goals
    rename_i he
    rw [he] at hx
    exact if_pos hx

theorem decodeDataOperation_badOperand (hv : isVfpWord w = true) (hop : Body.isBadDataOpcode (bodyOf w) = false)
    (hx : Body.isBadDoubleOperand (bodyOf w) = true) :
    decodeDataOperation w = .unimplVfpRegister (condOf w) (bodyOf w) := by
  have hgood : ¬Body.isBadDataOpcode (bodyOf w) = true := Bool.eq_false_iff.mp hop
  rw [isBadDataOpcode_iff] at hgood
  unfold decodeDataOperation
  split
  case h_10 hp =>
    by_cases hd : (cpNumOf w == 11) = true
    · exact (if_pos hd).trans (decodeExtDouble_badOperand hp (eq_of_beq hd) hop hx)
    · exact (if_neg hd).trans (decodeExtSingle_badOperand hp (cpNumOf_eq_of_not_double hv hd) hx)
  case h_11 =>
    have := (pqrsOf w).isLt
    simp only [imp_false] at *
    omega
  all_goals
    rename_i hp
    rw [isBadDoubleOperand_of_le (hp.le.trans (by decide)), Bool.and_eq_true] at hx
    obtain ⟨hd, hx⟩ := hx
    exact (if_pos hd).trans (if_pos hx)

theorem decodeRegisterTransfer_badOperand (hd : cpNumOf w = 11) (hop : Body.isBadTransferOpcode (bodyOf w) = false)
    (h7 : bit w 7 = true) : decodeRegisterTransfer w = .unimplVfpRegister (condOf w) (bodyOf w) := by
  rw [isBadTransferOpcode_bodyOf, hd] at hop
  unfold decodeRegisterTransfer
  split
  case h_9 => cases h20 : bit w 20 <;> simp_all
  all_goals simp_all

theorem decodeTwoRegister_badOperand (h6 : bits w 6 2 = 0) (h4 : bit w 4 = true)
    (hx : cpNumOf w = 10 ∧ sm w = 31 ∨ cpNumOf w = 11 ∧ bit w 5 = true) :
    decodeTwoRegister w = .unimplVfpRegister (condOf w) (bodyOf w) := by
  rcases hx with ⟨hs, hm⟩ | ⟨hd, h5⟩
  · simp [decodeTwoRegister, h6, h4, hs, hm]
  · simp [decodeTwoRegister, h6, h4, hd, h5]

theorem decodeDataTransfer_badOperand (hd : cpNumOf w = 11) (h22 : bit w 22 = true)
    (hm : (modeOf (bit w 24) (bit w 23) (bit w 21)).isSome = true) :
    decodeDataTransfer w = .unimplVfpRegister (condOf w) (bodyOf w) := by
  unfold decodeDataTransfer
  split
  case h_2 => simp [decodeOffsetTransfer, hd, h22]
  case h_3 | h_4 => simp [decodeMultipleTransfer, hd, h22]
  all_goals
    rename_i h24 h23 h21
    rw [h24, h23, h21] at hm
    cases hm

theorem decodesTo_unimplVfpRegister (h : Body.isVfpRegister (bodyOf w) = true) :
    DecodesTo w (.unimplVfpRegister (condOf w) (bodyOf w)) := by
  simp only [Body.isVfpRegister, Bool.or_eq_true, Bool.and_eq_true, Bool.not_eq_true', isTwoRegister_iff,
    isSingle_bodyOf, isDouble_bodyOf, mode_bodyOf, field_bodyOf _ 0 4 (by decide),
    getLsbD_bodyOf_of_lt w (i := 5) (by decide), getLsbD_bodyOf_of_lt w (i := 7) (by decide),
    getLsbD_bodyOf_of_lt w (i := 22) (by decide)] at h
  have hdouble (hd : (cpNumOf w == 11) = true) : isVfpWord w = true := by rw [isVfpWord, hd, Bool.or_true]
  rcases h with
    (((⟨⟨⟨hcdo, hnum⟩, hop⟩, hx⟩ | ⟨⟨⟨hcrt, hd⟩, hop⟩, h7⟩) | ⟨⟨⟨⟨htwo, h6, h4⟩, hs⟩, h15⟩, h5⟩) |
      ⟨⟨⟨htwo, h6, h4⟩, hd⟩, h5⟩) | ⟨⟨⟨hcdt, hd⟩, hm⟩, h22⟩
  · have hv : isVfpWord w = true := by rwa [isVfpWord, Bool.or_eq_true]
    exact ⟨.inr (.inl hcdo), (decodeVfp_cdo hcdo hv).trans (decodeDataOperation_badOperand hv hop hx)⟩
  · have hbad := decodeRegisterTransfer_badOperand (eq_of_beq hd) hop h7
    exact ⟨.inr (.inr hcrt), (decodeVfp_crt hcrt (hdouble hd)).trans hbad⟩
  · have hm : sm w = 31 := by
      have h5' : bits w 5 1 = 1 := bits_eq_iff.mpr (by simpa using h5)
      rw [sm, sregAt, eq_of_beq h15, h5']
      rfl
    refine decodesTo_of_twoRegister htwo (by rw [isVfpWord, hs, Bool.true_or]) ?_
    exact decodeTwoRegister_badOperand h6 h4 (.inl ⟨eq_of_beq hs, hm⟩)
  · refine decodesTo_of_twoRegister htwo (hdouble hd) ?_
    exact decodeTwoRegister_badOperand h6 h4 (.inr ⟨eq_of_beq hd, h5⟩)
  · have hbad := decodeDataTransfer_badOperand (eq_of_beq hd) h22 hm
    exact ⟨.inl hcdt, (decodeVfp_cdt hcdt (hdouble hd)).trans hbad⟩

/-! Modes and lists without a meaning (49_vfp.md R416, R418, R419). -/

theorem decodeTwoRegister_bad (h : ¬(bits w 6 2 = 0 ∧ bit w 4 = true)) :
    decodeTwoRegister w = .unimplVfpAddressingMode (condOf w) (bodyOf w) := by
  rw [decodeTwoRegister]
  exact if_pos (by simpa [imp_iff_not_or] using h)

theorem decodeDataTransfer_noMode (hm : (modeOf (bit w 24) (bit w 23) (bit w 21)).isNone = true)
    (htwo : ¬(bits w 21 7 = 0x62 ∧ bits w 6 2 = 0 ∧ bit w 4 = true)) (hcdt : Body.isCdt (bodyOf w) = true) :
    decodeDataTransfer w = .unimplVfpAddressingMode (condOf w) (bodyOf w) := by
  unfold decodeDataTransfer
  split
  case h_1 h24 h23 h21 =>
    split
    case isTrue h22 =>
      refine decodeTwoRegister_bad fun h => htwo ⟨?_, h⟩
      rw [isCdt_iff] at hcdt
      simp only [bits_eq_iff, Nat.forall_lt_succ_right] at hcdt ⊢
      simp_all
    case isFalse => rfl
  case h_2 h24 h21 => rw [h24, h21] at hm; cases hm
  case h_3 h24 h23 => rw [h24, h23] at hm; cases h21 : bit w 21 <;> rw [h21] at hm <;> cases hm
  case h_4 h24 h23 h21 => rw [h24, h23, h21] at hm; cases hm
  all_goals rfl

/-- A word in a mode of the multiple transfers is decoded as one. -/
theorem decodeDataTransfer_multiple (hm : isMultipleMode (modeOf (bit w 24) (bit w 23) (bit w 21)) = true) :
    ∃ before, decodeDataTransfer w = decodeMultipleTransfer w before := by
  unfold decodeDataTransfer
  split
  case h_3 => exact ⟨_, rfl⟩
  case h_4 => exact ⟨_, rfl⟩
  case h_2 h24 h21 => rw [h24, h21] at hm; cases hm
  all_goals
    rename_i h24 h23 h21
    rw [h24, h23, h21] at hm
    cases hm

theorem decodesTo_unimplVfpAddressingMode (h : Body.isVfpAddressingMode (bodyOf w) = true) :
    DecodesTo w (.unimplVfpAddressingMode (condOf w) (bodyOf w)) := by
  rw [Body.isVfpAddressingMode, ← isVfpWord_eq, mode_bodyOf, isDouble_bodyOf, getLsbD_bodyOf_of_lt w (by decide),
    getLsbD_bodyOf_of_lt w (by decide)] at h
  simp only [Bool.and_eq_true, Bool.or_eq_true, Bool.not_eq_true'] at h
  obtain ⟨⟨hcdt, hv⟩, ⟨hm, htwo⟩ | ⟨⟨⟨hd, h22⟩, h0⟩, hm⟩⟩ := h
  · have htwo' := mt (isTwoRegister_iff w).mpr (Bool.eq_false_iff.mp htwo)
    exact ⟨.inl hcdt, (decodeVfp_cdt hcdt hv).trans (decodeDataTransfer_noMode hm htwo' hcdt)⟩
  · obtain ⟨before, hb⟩ := decodeDataTransfer_multiple (w := w) (by rw [isMultipleMode, Bool.and_eq_true]; exact hm)
    refine ⟨.inl hcdt, (decodeVfp_cdt hcdt hv).trans (hb.trans ?_)⟩
    simp [decodeMultipleTransfer, eq_of_beq hd, h22, h0]

theorem decodesTo_unimplVfpRegisterList (h : Body.isVfpRegisterList (bodyOf w) = true) :
    DecodesTo w (.unimplVfpRegisterList (condOf w) (bodyOf w)) := by
  rw [Body.isVfpRegisterList, mode_bodyOf, isDouble_bodyOf, isSingle_bodyOf, getLsbD_bodyOf_of_lt w (by decide),
    field_bodyOf _ _ _ (by decide)] at h
  simp only [Bool.and_eq_true, Bool.or_eq_true, Bool.not_eq_true', beq_iff_eq] at h
  obtain ⟨⟨⟨hcdt, hreg⟩, hm⟩, hoff⟩ := h
  have hv : isVfpWord w = true := by rcases hreg with hs | ⟨hd, -⟩ <;> simp [isVfpWord, *]
  have h0 : bit w 0 = false := bits_eq_iff.mp hoff 0 (by decide)
  obtain ⟨before, hb⟩ := decodeDataTransfer_multiple (w := w) (by simpa [isMultipleMode] using hm)
  refine ⟨.inl hcdt, (decodeVfp_cdt hcdt hv).trans (hb.trans ?_)⟩
  rcases hreg with hs | ⟨hd, h22⟩
  · simp [decodeMultipleTransfer, hs, hoff]
  · simp [decodeMultipleTransfer, hd, h22, h0, hoff]

end

/-! ## Every row -/

/-- A fault row's word is decoded back where the row's test decides. -/
theorem encodeBody_decodesTo {row : Cond → Body → Instr} {test : Body → Bool}
    (hrow : ∀ w, test (bodyOf w) = true → DecodesTo w (row (condOf w) (bodyOf w))) (c : Cond) {b : Body}
    (hb : test b = true) : DecodesTo (encodeBody c b) (row c b) := by
  have h := hrow (encodeBody c b)
  rw [bodyOf_encodeBody, condOf_encodeBody] at h
  exact h hb

/-- Decode of encode for every row of the unit's list. -/
theorem encode_decodesTo {i : Instr} (hwf : i.wf = true) (hl : i.level = .vfp) : DecodesTo (encode i) i := by
  cases hf : isVfpFault i with
  | false => exact encode_decodesTo_of_operands hwf hl hf
  | true =>
    cases i
    case unimplVfpOpcode c b => exact encodeBody_decodesTo (fun _ => decodesTo_unimplVfpOpcode) c hwf
    case unimplVfpRegister c b => exact encodeBody_decodesTo (fun _ => decodesTo_unimplVfpRegister) c hwf
    case unimplNoCoprocessor c b => exact encodeBody_decodesTo (fun _ => decodesTo_unimplNoCoprocessor) c hwf
    case unimplVfpAddressingMode c b => exact encodeBody_decodesTo (fun _ => decodesTo_unimplVfpAddressingMode) c hwf
    case unimplVfpRegisterList c b => exact encodeBody_decodesTo (fun _ => decodesTo_unimplVfpRegisterList) c hwf
    all_goals exact Bool.noConfusion hf

/-- Settles O6: every row's word is a coprocessor word that the unit decodes to the row, and only the row of another
coprocessor's number lacks the unit's. -/
theorem vfpRoundTrip : Obligations.VfpRoundTrip := by
  intro i hwf hl
  obtain ⟨hw, hi⟩ := encode_decodesTo hwf hl
  refine ⟨hi, fun hno => ?_⟩
  have hv : isVfpWord (encode i) = true := by
    by_contra hv
    rw [decodeVfp, Bool.eq_false_iff.mpr hv] at hi
    rw [← hi] at hno
    cases hno
  rw [decodeWord_vfp hw hv, hi]

end Sys2Proof.Proofs
end

section
/-!
PROOFS. The VFP unit's data operations and register transfers (49_vfp.md R370 to R409, R420): each is one write of the
bank, of a general register or of the flags, and the rest is left alone.
-/

namespace Sys2Proof.Proofs

open Sys2Proof.Machine Sys2Proof.Safety

/-! ## What a write of the bank leaves alone -/

section Frame

variable {is : List SReg} {s t : State}

theorem onlySlots_refl (is : List SReg) (s : State) : OnlySlots is s s :=
  ⟨fun _ _ => rfl, fun _ => rfl, fun _ _ => rfl, rfl, ⟨rfl, rfl, rfl, rfl, rfl⟩, rfl⟩

theorem slotsBut_setSReg (h : SlotsBut is s t) {i : SReg} (hi : i ∈ is) (v : Word) :
    SlotsBut is s (t.setSReg i v) := by
  intro j hj
  have hne : i ≠ j := fun heq => hj (heq ▸ hi)
  rw [State.sreg_setSReg, if_neg hne, h j hj]

theorem onlySlots_setSReg (h : OnlySlots is s t) {i : SReg} (hi : i ∈ is) (v : Word) :
    OnlySlots is s (t.setSReg i v) := by
  obtain ⟨hregs, hmem, hslots, hrest⟩ := h
  exact ⟨hregs, hmem, slotsBut_setSReg hslots hi v, hrest⟩

theorem onlySlots_setDReg (h : OnlySlots is s t) {d : DReg} (hlow : lowSlot d ∈ is) (hhigh : highSlot d ∈ is)
    (v : Dword) : OnlySlots is s (t.setDReg d v) :=
  onlySlots_setSReg (onlySlots_setSReg h hlow _) hhigh _

end Frame

/-! ## The shapes of the effects -/

/-- Behind the port, with the unit attached, a VFP instruction is the unit's operation. -/
theorem exec_vfpUnit {i : Instr} {s : State} (hr : VfpRuns i.cond s) (hl : i.level = .vfp) :
    exec i s = vfpUnit i s := by
  obtain ⟨hc, hv⟩ := hr
  rw [exec_vfp hl, coprocessor_vfp _ hc hv]

section Effect

variable {i : Instr} {s : State}

theorem singleEffect_of_setSReg {d : SReg} {v : Word} (hi : exec i s = .next (s.setSReg d v)) :
    SingleEffect i s d v :=
  ⟨_, hi, by simp, onlySlots_setSReg (onlySlots_refl _ s) (by simp) v⟩

theorem doubleEffect_of_setDReg {d : DReg} {v : Dword} (hi : exec i s = .next (s.setDReg d v)) :
    DoubleEffect i s d v :=
  ⟨_, hi, dreg_setDReg_same s d v, onlySlots_setDReg (onlySlots_refl _ s) (by simp) (by simp) v⟩

theorem regEffect_of_setReg {rd : Reg} {v : Word} (hi : exec i s = .next (s.setReg rd v)) : RegEffect i s rd v :=
  ⟨_, hi, by simp, onlyRegs_setReg (onlyRegs_refl _ s) (by simp) v⟩

theorem withTopBits_top (r : Word) (n z c v : Bool) : (withTopBits r n z c v).extractLsb' 28 4 =
    BitVec.ofBool n ++ BitVec.ofBool z ++ BitVec.ofBool c ++ BitVec.ofBool v :=
  BitVec.extractLsb'_append_eq_left

theorem compare_top (s : State) (k : FpClass) :
    (s.compare k).fpscr.extractLsb' 28 4 = compareBits k ∧ (s.compare k).cpsr.extractLsb' 28 4 = compareBits k := by
  cases k <;> simp [State.compare, setCompareFlags, withTopBits_top, compareBits]

theorem compareClassEffect_of_compare {k : FpClass} (hi : exec i s = .next (s.compare k)) :
    CompareClassEffect i s k := by
  obtain ⟨hfpscr, hcpsr⟩ := compare_top s k
  refine ⟨_, hi, hfpscr, hcpsr, s.compare_low k, fun r _ => s.reg_compare k r, fun a => ?_,
    fun j _ => s.sreg_compare k j, ?_⟩
  · rw [State.compare_mem]
  · exact ⟨s.compare_spsr k, s.compare_fpexc k, s.compare_ranges k, s.compare_setup k, s.compare_run k⟩

end Effect

/-! ## Data operations -/

/-- Settles O47: each operation is one write of its destination, with the operands it routes. -/
theorem vfpArithmetic : Obligations.VfpArithmetic := by
  intro c d n m e p q s hr
  refine ⟨?_, ?_, ?_, ?_, ?_, ?_, ?_, ?_, ?_, ?_, ?_, ?_, ?_, ?_, ?_, ?_, ?_, ?_⟩
  iterate 9 exact singleEffect_of_setSReg (exec_vfpUnit hr rfl)
  all_goals exact doubleEffect_of_setDReg (exec_vfpUnit hr rfl)

/-- Settles O49: each conversion is one write of its destination. -/
theorem vfpConversions : Obligations.VfpConversions := by
  intro c d m e q s hr
  refine ⟨?_, ?_, ?_, ?_, ?_, ?_, ?_, ?_, ?_, ?_, ?_, ?_, ?_, ?_, ?_, ?_⟩
  case refine_2 | refine_3 | refine_6 | refine_8 => exact doubleEffect_of_setDReg (exec_vfpUnit hr rfl)
  all_goals exact singleEffect_of_setSReg (exec_vfpUnit hr rfl)

/-- The sign bit cleared, every other bit copied. -/
theorem and_low_bits {n : Nat} (v : BitVec (n + 1)) :
    v &&& BitVec.ofNat (n + 1) (2 ^ n - 1) = (0#1 ++ v.extractLsb' 0 n).setWidth (n + 1) := by
  have hlt : 2 ^ n - 1 < 2 ^ (n + 1) := by
    have := Nat.two_pow_pos n
    omega
  refine BitVec.eq_of_toNat_eq ?_
  rw [BitVec.toNat_and, BitVec.toNat_ofNat, Nat.mod_eq_of_lt hlt, Nat.and_two_pow_sub_one_eq_mod]
  have hmod : v.toNat % 2 ^ n < 2 ^ (n + 1) := (Nat.mod_lt _ (Nat.two_pow_pos n)).trans (by omega)
  simp [Nat.mod_eq_of_lt hmod]

/-- The sign bit flipped, every other bit copied. -/
theorem xor_top_bit {n : Nat} (v : BitVec (n + 1)) :
    v ^^^ BitVec.twoPow (n + 1) n =
      (BitVec.ofBool (!v.getLsbD n) ++ v.extractLsb' 0 n).setWidth (n + 1) := by
  refine BitVec.eq_of_getLsbD_eq fun i hi => ?_
  rw [BitVec.getLsbD_xor, BitVec.getLsbD_twoPow, BitVec.getLsbD_setWidth, BitVec.getLsbD_append]
  by_cases h : i < n
  · simp [h, hi, h.ne']
  · obtain rfl : i = n := by omega
    simp

/-- Settles O48: each is one write of its destination, with the sign bit kept, cleared or flipped. -/
theorem vfpSignOperations : Obligations.VfpSignOperations := by
  intro c d m e q s hr
  refine ⟨?_, ?_, ?_, ?_, ?_, ?_⟩
  · exact singleEffect_of_setSReg (exec_vfpUnit hr rfl)
  · rw [← and_low_bits]; exact singleEffect_of_setSReg (exec_vfpUnit hr rfl)
  · rw [← xor_top_bit]; exact singleEffect_of_setSReg (exec_vfpUnit hr rfl)
  · exact doubleEffect_of_setDReg (exec_vfpUnit hr rfl)
  · rw [← and_low_bits]; exact doubleEffect_of_setDReg (exec_vfpUnit hr rfl)
  · rw [← xor_top_bit]; exact doubleEffect_of_setDReg (exec_vfpUnit hr rfl)

/-- Settles O50: each compare writes the class of its pair. -/
theorem vfpCompares : Obligations.VfpCompares := by
  intro c d m e q s hr
  refine ⟨?_, ?_, ?_, ?_, ?_, ?_, ?_, ?_⟩ <;> exact compareClassEffect_of_compare (exec_vfpUnit hr rfl)

/-! ## Register transfers -/

/-- A write of the low half of a double keeps the high half. -/
theorem doubleEffect_of_setSReg_low {i : Instr} {s : State} {e : DReg} {v : Word}
    (hi : exec i s = .next (s.setSReg (lowSlot e) v)) : DoubleEffect i s e ((s.dreg e).extractLsb' 32 32 ++ v) :=
  ⟨_, hi, by rw [dreg_setSReg_lowSlot, if_pos rfl], onlySlots_setSReg (onlySlots_refl _ s) (by simp) v⟩

/-- A write of the high half of a double keeps the low half. -/
theorem doubleEffect_of_setSReg_high {i : Instr} {s : State} {e : DReg} {v : Word}
    (hi : exec i s = .next (s.setSReg (highSlot e) v)) : DoubleEffect i s e (v ++ (s.dreg e).extractLsb' 0 32) :=
  ⟨_, hi, by rw [dreg_setSReg_highSlot, if_pos rfl], onlySlots_setSReg (onlySlots_refl _ s) (by simp) v⟩

/-- Settles O53: each transfer is one write. -/
theorem vfpRegisterMoves : Obligations.VfpRegisterMoves := by
  intro c n e rd s hr
  refine ⟨?_, ?_, ?_, ?_, ?_, ?_, ?_⟩
  · exact singleEffect_of_setSReg (exec_vfpUnit hr rfl)
  · exact regEffect_of_setReg (exec_vfpUnit hr rfl)
  · exact doubleEffect_of_setSReg_low (exec_vfpUnit hr rfl)
  · rw [dreg_low]; exact regEffect_of_setReg (exec_vfpUnit hr rfl)
  · exact doubleEffect_of_setSReg_high (exec_vfpUnit hr rfl)
  · rw [dreg_high]; exact regEffect_of_setReg (exec_vfpUnit hr rfl)
  · exact regEffect_of_setReg (exec_vfpUnit hr rfl)

section TwoRegister

variable {i : Instr} {s : State}

/-- Two general registers written one after the other: of equal ones the second write remains (49_vfp.md R407, R409). -/
theorem twoRegEffect_of_setReg {rn rd : Reg} {lo hi : Word} (hx : exec i s = .next ((s.setReg rd lo).setReg rn hi)) :
    ∃ t, exec i s = .next t ∧ t.reg rn = hi ∧ (rd ≠ rn → t.reg rd = lo) ∧ OnlyRegs [rd, rn] s t := by
  refine ⟨_, hx, by simp, fun hne => by simp [hne.symm], ?_⟩
  exact onlyRegs_setReg (onlyRegs_setReg (onlyRegs_refl _ s) (by simp) lo) (by simp) hi

/-- Two neighbouring singles written (49_vfp.md R408). -/
theorem twoSRegEffect_of_setSReg {m : SReg} {lo hi : Word}
    (hx : exec i s = .next ((s.setSReg m lo).setSReg (m + 1) hi)) :
    ∃ t, exec i s = .next t ∧ t.sreg m = lo ∧ t.sreg (m + 1) = hi ∧ OnlySlots [m, m + 1] s t := by
  refine ⟨_, hx, by simp, by simp, ?_⟩
  exact onlySlots_setSReg (onlySlots_setSReg (onlySlots_refl _ s) (by simp) lo) (by simp) hi

end TwoRegister

/-- Settles O54: each move is two writes in order, and `s31` starts no pair. -/
theorem vfpTwoRegisterMoves : Obligations.VfpTwoRegisterMoves := by
  intro c rn rd m e s hr
  have h31 : m = 31 ↔ m.toNat = 31 := BitVec.toNat_inj.symm
  refine ⟨?_, ?_, fun hm => ⟨?_, ?_⟩, fun hm => ⟨?_, ?_⟩⟩
  · exact doubleEffect_of_setDReg (exec_vfpUnit hr rfl)
  · rw [dreg_low, dreg_high]
    exact twoRegEffect_of_setReg (exec_vfpUnit hr rfl)
  · exact twoSRegEffect_of_setSReg
      ((exec_vfpUnit (i := .fmsrr c rn rd m) hr rfl).trans (if_neg (mt h31.mp hm.ne)))
  · exact twoRegEffect_of_setReg
      ((exec_vfpUnit (i := .fmrrs c rn rd m) hr rfl).trans (if_neg (mt h31.mp hm.ne)))
  · exact (exec_vfpUnit (i := .fmsrr c rn rd m) hr rfl).trans (if_pos (h31.mpr hm))
  · exact (exec_vfpUnit (i := .fmrrs c rn rd m) hr rfl).trans (if_pos (h31.mpr hm))

/-! ## Reset -/

/-- Settles O18. -/
theorem resetValues : Obligations.ResetValues := by
  refine ⟨fun p bank fpscr fpexc => ?_, _, _, _, _, rfl⟩
  have hreg (r : Reg) : (State.init p bank fpscr fpexc).reg r = 0 := Vector.getElem_replicate r.isLt
  exact ⟨hreg, hreg 15, rfl, rfl, fun _ => rfl, rfl, fun _ => rfl, rfl, rfl, rfl, rfl, rfl⟩

end Sys2Proof.Proofs
end

section
/-!
PROOFS. The coprocessor port (48_coprocessor_dispatch.md R331 to R335) and the words of the VFP unit that fault
(49_vfp.md R399, R404, R416, R418, R419).
-/

namespace Sys2Proof.Proofs

open Sys2Proof.Machine Sys2Proof.Safety

/-! ## The unit's faults -/

section Faults

variable {s : State}

/-- A word outside the data transfers, or in a mode the unit has, ends in its own fault. -/
theorem vfpFault_present {b : Body} (why : UnimplReason)
    (h : ∀ m, Body.isCdt b = true → Body.mode b = some m → hasMode s m = true) :
    vfpFault why b s = .fault (.unimplemented why s) := by
  unfold vfpFault
  split
  case h_1 m hcdt hm => rw [inMode_has _ (h m hcdt hm)]; rfl
  case h_2 => rfl

/-- A data transfer in a mode the unit lacks ends in the mode's fault. -/
theorem vfpFault_absent {b : Body} {m : DtMode} (why : UnimplReason) (hcdt : Body.isCdt b = true)
    (hm : Body.mode b = some m) (h : hasMode s m = false) :
    vfpFault why b s = .fault (.unimplemented .vfpAddressingMode s) := by
  simp only [vfpFault, hcdt, hm]
  exact inMode_lacks _ h

variable {m : DtMode} {rn : Reg} {words : BitVec 8} {file first count size : Nat}
  {transfer : Nat → Word → State → Except MemFault State}

/-- An empty or overlong list (49_vfp.md R419). -/
theorem vfpMultiple_badList (hm : hasMode s m = true) (hlist : count = 0 ∨ file < first + count) :
    vfpMultiple m rn words file first count size transfer s = .fault (.unimplemented .vfpRegisterList s) :=
  (inMode_has _ hm).trans (if_pos hlist)

/-- A mode outside `VFP_DT_MODES` (49_vfp.md R418). -/
theorem vfpMultiple_lacks (hm : hasMode s m = false) :
    vfpMultiple m rn words file first count size transfer s = .fault (.unimplemented .vfpAddressingMode s) :=
  inMode_lacks _ hm

end Faults

/-! The multiple transfers, behind the port. -/

section Multiple

variable {c : Cond} {s : State} (hr : VfpRuns c s) (w : Bool) (rn : Reg) (f : SReg) (g : DReg) (n : BitVec 8)
  (k : BitVec 7)
include hr

theorem exec_fldmias : exec (.fldmias c w rn f n) s =
    vfpMultiple (if w then .iaw else .ia) rn n 32 f.toNat n.toNat 4 (loadSingle f) s := exec_vfpUnit hr rfl

theorem exec_fstmias : exec (.fstmias c w rn f n) s =
    vfpMultiple (if w then .iaw else .ia) rn n 32 f.toNat n.toNat 4 (storeSingle f) s := exec_vfpUnit hr rfl

theorem exec_fldmiad : exec (.fldmiad c w rn g k) s =
    vfpMultiple (if w then .iaw else .ia) rn (k ++ 0#1) 16 g.toNat k.toNat 8 (loadDouble g) s := exec_vfpUnit hr rfl

theorem exec_fstmiad : exec (.fstmiad c w rn g k) s =
    vfpMultiple (if w then .iaw else .ia) rn (k ++ 0#1) 16 g.toNat k.toNat 8 (storeDouble g) s := exec_vfpUnit hr rfl

theorem exec_fldmdbs : exec (.fldmdbs c rn f n) s =
    vfpMultiple .dbw rn n 32 f.toNat n.toNat 4 (loadSingle f) s := exec_vfpUnit hr rfl

theorem exec_fstmdbs : exec (.fstmdbs c rn f n) s =
    vfpMultiple .dbw rn n 32 f.toNat n.toNat 4 (storeSingle f) s := exec_vfpUnit hr rfl

theorem exec_fldmdbd : exec (.fldmdbd c rn g k) s =
    vfpMultiple .dbw rn (k ++ 0#1) 16 g.toNat k.toNat 8 (loadDouble g) s := exec_vfpUnit hr rfl

theorem exec_fstmdbd : exec (.fstmdbd c rn g k) s =
    vfpMultiple .dbw rn (k ++ 0#1) 16 g.toNat k.toNat 8 (storeDouble g) s := exec_vfpUnit hr rfl

end Multiple

/-- Settles O57: each word without a meaning is its fault, and a multiple transfer checks its mode, then its list. -/
theorem vfpFaults : Obligations.VfpFaults := by
  intro c b rn rd fn w f g n k s hr
  have hn : n = 0 ↔ n.toNat = 0 := BitVec.toNat_inj.symm
  have hk : k = 0 ↔ k.toNat = 0 := BitVec.toNat_inj.symm
  refine ⟨exec_vfpUnit hr rfl, exec_vfpUnit hr rfl, fun hfn => ?_, exec_vfpUnit hr rfl, exec_vfpUnit hr rfl,
    exec_vfpUnit hr rfl, rfl, fun hm => ⟨?_, ?_⟩, fun m hcdt hm hlack => ⟨?_, ?_⟩, fun hlist => ?_,
    fun hlist => ?_, fun hm => ?_, fun hm => ?_⟩
  · exact (exec_vfpUnit (i := .fmrx c fn rd) hr rfl).trans (if_neg hfn)
  · exact (exec_vfpUnit (i := .unimplVfpRegister c b) hr rfl).trans (vfpFault_present _ hm)
  · exact (exec_vfpUnit (i := .unimplVfpRegisterList c b) hr rfl).trans (vfpFault_present _ hm)
  · exact (exec_vfpUnit (i := .unimplVfpRegister c b) hr rfl).trans (vfpFault_absent _ hcdt hm hlack)
  · exact (exec_vfpUnit (i := .unimplVfpRegisterList c b) hr rfl).trans (vfpFault_absent _ hcdt hm hlack)
  · rw [hn] at hlist
    refine ⟨fun hm => ?_, fun hm => ?_⟩
    · simp [exec_fldmias hr, exec_fstmias hr, vfpMultiple_badList hm hlist]
    · simp [exec_fldmdbs hr, exec_fstmdbs hr, vfpMultiple_badList hm hlist]
  · rw [hk] at hlist
    refine ⟨fun hm => ?_, fun hm => ?_⟩
    · simp [exec_fldmiad hr, exec_fstmiad hr, vfpMultiple_badList hm hlist]
    · simp [exec_fldmdbd hr, exec_fstmdbd hr, vfpMultiple_badList hm hlist]
  · simp [exec_fldmias hr, exec_fstmias hr, exec_fldmiad hr, exec_fstmiad hr, vfpMultiple_lacks hm]
  · simp [exec_fldmdbs hr, exec_fstmdbs hr, exec_fldmdbd hr, exec_fstmdbd hr, vfpMultiple_lacks hm]

/-! ## The port -/

theorem exec_absent {i : Instr} {s : State} (hi : i.level = .vfp ∨ i.isGeneric = true) (hc : Passes i.cond s)
    (hv : s.setup.coproc = .absent) : exec i s = .fault (.unimplemented .noCoprocessor s) := by
  rcases hi with hl | hg
  · rw [exec_vfp hl, coprocessor_absent _ hc hv]
  · rw [exec_generic hg, coprocessor_absent _ hc hv]

/-- Settles O59: without a unit the port answers, and a unit answers another number's word the same. -/
theorem noCoprocessorFaults : Obligations.NoCoprocessorFaults := by
  intro i s hi hc
  refine ⟨exec_absent hi hc, fun hg hw => ?_⟩
  cases hv : s.setup.coproc with
  | absent => exact exec_absent hi hc hv
  | vfp =>
    rw [exec_generic hg, coprocessor_vfp _ hc hv, decodeVfp, hw]
    rfl

/-! ## Generic instructions -/

/-- What the unit decodes a word to is of its own list and has the word's condition. -/
def IsUnitRow (w : Word) (i : Instr) : Prop := i.level = .vfp ∧ i.cond = condOf w

theorem IsUnitRow.ite {w : Word} {p : Prop} [Decidable p] {i j : Instr} (hi : IsUnitRow w i) (hj : IsUnitRow w j) :
    IsUnitRow w (if p then i else j) :=
  iteInduction (fun _ => hi) fun _ => hj

theorem decodeExtSingle_isUnitRow (w : Word) : IsUnitRow w (decodeExtSingle w) := by
  unfold decodeExtSingle
  split
  case h_9 => exact .ite ⟨rfl, rfl⟩ ⟨rfl, rfl⟩
  all_goals exact ⟨rfl, rfl⟩

theorem decodeExtDouble_isUnitRow (w : Word) : IsUnitRow w (decodeExtDouble w) := by
  unfold decodeExtDouble
  split
  case h_16 => exact ⟨rfl, rfl⟩
  all_goals exact .ite ⟨rfl, rfl⟩ ⟨rfl, rfl⟩

theorem decodeDataOperation_isUnitRow (w : Word) : IsUnitRow w (decodeDataOperation w) := by
  unfold decodeDataOperation
  split
  case h_10 => exact .ite (decodeExtDouble_isUnitRow w) (decodeExtSingle_isUnitRow w)
  case h_11 => exact ⟨rfl, rfl⟩
  all_goals exact .ite (.ite ⟨rfl, rfl⟩ ⟨rfl, rfl⟩) ⟨rfl, rfl⟩

theorem decodeRegisterTransfer_isUnitRow (w : Word) : IsUnitRow w (decodeRegisterTransfer w) := by
  unfold decodeRegisterTransfer
  split
  case h_3 | h_4 | h_5 | h_6 | h_8 => exact .ite ⟨rfl, rfl⟩ ⟨rfl, rfl⟩
  all_goals exact ⟨rfl, rfl⟩

theorem decodeTwoRegister_isUnitRow (w : Word) : IsUnitRow w (decodeTwoRegister w) :=
  .ite ⟨rfl, rfl⟩ (.ite (.ite ⟨rfl, rfl⟩ (.ite ⟨rfl, rfl⟩ ⟨rfl, rfl⟩)) (.ite ⟨rfl, rfl⟩ (.ite ⟨rfl, rfl⟩ ⟨rfl, rfl⟩)))

theorem decodeOffsetTransfer_isUnitRow (w : Word) : IsUnitRow w (decodeOffsetTransfer w) :=
  .ite (.ite ⟨rfl, rfl⟩ (.ite ⟨rfl, rfl⟩ ⟨rfl, rfl⟩)) (.ite ⟨rfl, rfl⟩ ⟨rfl, rfl⟩)

theorem decodeMultipleTransfer_isUnitRow (w : Word) (before : Bool) :
    IsUnitRow w (decodeMultipleTransfer w before) := by
  refine .ite (.ite ⟨rfl, rfl⟩ (.ite ⟨rfl, rfl⟩ (.ite ⟨rfl, rfl⟩ ?_))) (.ite ⟨rfl, rfl⟩ ?_)
  · split <;> exact ⟨rfl, rfl⟩
  · split <;> exact ⟨rfl, rfl⟩

theorem decodeDataTransfer_isUnitRow (w : Word) : IsUnitRow w (decodeDataTransfer w) := by
  unfold decodeDataTransfer
  split
  case h_1 => exact .ite (decodeTwoRegister_isUnitRow w) ⟨rfl, rfl⟩
  case h_2 => exact decodeOffsetTransfer_isUnitRow w
  case h_3 => exact decodeMultipleTransfer_isUnitRow w false
  case h_4 => exact decodeMultipleTransfer_isUnitRow w true
  all_goals exact ⟨rfl, rfl⟩

/-- The unit's row of any word. -/
theorem decodeVfp_isUnitRow (w : Word) : IsUnitRow w (decodeVfp w) :=
  .ite ⟨rfl, rfl⟩ (.ite (decodeDataTransfer_isUnitRow w)
    (.ite (decodeRegisterTransfer_isUnitRow w) (decodeDataOperation_isUnitRow w)))

/-- With the unit attached a generic instruction is what the unit reads in its word
(48_coprocessor_dispatch.md R331). -/
theorem exec_generic_eq {i : Instr} {s : State} (hg : i.isGeneric = true) (hr : VfpRuns i.cond s) :
    exec i s = exec (decodeVfp (encode i)) s := by
  obtain ⟨hl, hcond⟩ := decodeVfp_isUnitRow (encode i)
  have hfield : condOf (encode i) = i.cond := by
    cases i
    case ldc | stc => exact condOf_eq (encodeCdt_cond ..)
    case cdp => exact condOf_eq (encodeCdo_cond ..)
    case mcr | mrc => exact condOf_eq (encodeCrt_cond ..)
    all_goals exact Bool.noConfusion hg
  rw [hfield] at hcond
  obtain ⟨hc, hv⟩ := hr
  rw [exec_generic hg, coprocessor_vfp _ hc hv, exec_vfpUnit (by rw [hcond]; exact ⟨hc, hv⟩) hl]

end Sys2Proof.Proofs
end

section
/-!
PROOFS. The VFP unit's single loads and stores (49_vfp.md R410 to R413, R418), and the generic instructions that
the unit reads as its own (48_coprocessor_dispatch.md R332 to R334).
-/

namespace Sys2Proof.Proofs

open Sys2Proof.Machine Sys2Proof.Safety

/-! ## Addresses -/

theorem four_mul_setWidth (off : BitVec 8) : (4 : Word) * off.setWidth 32 = BitVec.ofNat 32 (4 * off.toNat) := by
  refine BitVec.eq_of_toNat_eq ?_
  simp [BitVec.toNat_mul]

theorem wordsFrom_eq (u : Bool) (base : Word) (off : BitVec 8) : wordsFrom u base off =
    if u then base + BitVec.ofNat 32 (4 * off.toNat) else base - BitVec.ofNat 32 (4 * off.toNat) := by
  rw [wordsFrom, four_mul_setWidth]

/-! ## Single loads and stores -/

section Single

variable {c : Cond} {s : State} (hr : VfpRuns c s) (u : Bool) (rn : Reg) (d : SReg) (e : DReg) (off : BitVec 8)
include hr

theorem exec_flds : exec (.flds c u rn d off) s =
    loading s (offsetAddress s u rn off) 4 fun v => .next (s.setSReg d (BitVec.ofNat 32 v)) := exec_vfpUnit hr rfl

theorem exec_fldd : exec (.fldd c u rn e off) s =
    loading s (offsetAddress s u rn off) 8 fun v => .next (s.setDReg e (BitVec.ofNat 64 v)) := exec_vfpUnit hr rfl

theorem exec_fsts : exec (.fsts c u rn d off) s =
    storing s (offsetAddress s u rn off) 4 (s.sreg d).toNat .next := exec_vfpUnit hr rfl

theorem exec_fstd : exec (.fstd c u rn e off) s =
    storing s (offsetAddress s u rn off) 8 (s.dreg e).toNat .next := exec_vfpUnit hr rfl

end Single

/-- A store that the port lets through: its bytes, and nothing else. -/
theorem vfpStoreEffect_of_storing {i : Instr} {s : State} {a : Word} {n v : Nat} (hs : Invariant s)
    (hi : exec i s = storing s a n v .next) (hv : v < 256 ^ n) (h : Allowed s a n .write) :
    VfpStoreEffect i s a n v := by
  refine ⟨_, hi.trans (storing_allowed v _ h), ?_, onlyStores_writeN hs a n v []⟩
  obtain ⟨hwf, -⟩ := hs
  exact (Memory.readN_writeN _ _ _ hwf).trans (Nat.mod_eq_of_lt hv)

/-- Settles O55: each is one access of the port at its address. -/
theorem vfpLoadsAndStores : Obligations.VfpLoadsAndStores := by
  intro c u rn d e off f s hr hs
  simp only [← wordsFrom_eq]
  refine ⟨fun h => ?_, fun h => ?_, fun h => ?_, fun h => ?_, fun h => ?_, fun h => ?_, fun h => ?_, fun h => ?_⟩
  · exact singleEffect_of_setSReg ((exec_flds hr u rn d off).trans (loading_allowed _ h))
  · exact doubleEffect_of_setDReg ((exec_fldd hr u rn e off).trans (loading_allowed _ h))
  · exact vfpStoreEffect_of_storing hs (exec_fsts hr u rn d off) (s.sreg d).isLt h
  · exact vfpStoreEffect_of_storing hs (exec_fstd hr u rn e off) (s.dreg e).isLt h
  · exact (exec_flds hr u rn d off).trans (loading_denied _ h)
  · exact (exec_fldd hr u rn e off).trans (loading_denied _ h)
  · exact (exec_fsts hr u rn d off).trans (storing_denied _ _ h)
  · exact (exec_fstd hr u rn e off).trans (storing_denied _ _ h)

/-! ## Generic instructions -/

/-- A field inside another one. -/
theorem bits_put_part {m : Nat} (p : Nat) (v : BitVec m) (lo n : Nat) (hlo : p ≤ lo) (h : lo + n ≤ 32) :
    bits (put p v) lo n = v.extractLsb' (lo - p) n := by
  refine bits_eq_iff.mpr fun i hi => ?_
  rw [bit_put_inside _ _ _ (by omega) (by omega), BitVec.getLsbD_extractLsb', decide_eq_true hi, Bool.true_and,
    Nat.sub_add_comm hlo]

theorem encodeCdt_fields (c : Cond) (l p u n w : Bool) (rn crd cpNum : BitVec 4) (off : BitVec 8) :
    let v := encodeCdt c l p u n w rn crd cpNum off
    Body.isCdt (bodyOf v) = true ∧ condOf v = c ∧ cpNumOf v = cpNum ∧ bit v 24 = p ∧ bit v 23 = u ∧ bit v 21 = w ∧
      bit v 20 = l ∧ bits v 16 4 = rn ∧ sd v = crd ++ BitVec.ofBool n ∧ bits v 0 8 = off := by
  refine ⟨?_, condOf_eq (encodeCdt_cond ..), ?_⟩
  · simp [isCdt_iff, encodeCdt, withCond, putBit]
  · simp [encodeCdt, withCond, putBit, cpNumOf, sd, sregAt]

theorem encodeCdo_fields (c : Cond) (cpOpc crn crd cpNum : BitVec 4) (cp : BitVec 3) (crm : BitVec 4) :
    let w := encodeCdo c cpOpc crn crd cpNum cp crm
    Body.isCdo (bodyOf w) = true ∧ condOf w = c ∧ cpNumOf w = cpNum ∧
      pqrsOf w = cpOpc.extractLsb' 3 1 ++ cpOpc.extractLsb' 0 2 ++ cp.extractLsb' 1 1 ∧
      sd w = crd ++ cpOpc.extractLsb' 2 1 ∧ sn w = crn ++ cp.extractLsb' 2 1 ∧ sm w = crm ++ cp.extractLsb' 0 1 := by
  refine ⟨?_, condOf_eq (encodeCdo_cond ..), ?_⟩
  · simp [isCdo_iff, encodeCdo, withCond]
  · simp [encodeCdo, withCond, cpNumOf, pqrsOf, sd, sn, sm, sregAt, bits_put_part]

theorem encodeCrt_fields (c : Cond) (l : Bool) (cpOpc : BitVec 3) (crn rd cpNum : BitVec 4) (cp : BitVec 3)
    (crm : BitVec 4) :
    let w := encodeCrt c l cpOpc crn rd cpNum cp crm
    Body.isCrt (bodyOf w) = true ∧ condOf w = c ∧ cpNumOf w = cpNum ∧ bits w 21 3 = cpOpc ∧ bit w 20 = l ∧
      bits w 12 4 = rd ∧ sn w = crn ++ cp.extractLsb' 2 1 := by
  refine ⟨?_, condOf_eq (encodeCrt_cond ..), ?_⟩
  · simp [isCrt_iff, encodeCrt, withCond, putBit]
  · simp [encodeCrt, withCond, putBit, cpNumOf, sn, sregAt, bits_put_part]

/-- LDC and STC in mode Offset of an even single register. -/
theorem decodeVfp_encodeCdt (c : Cond) (l u : Bool) (rn fd : BitVec 4) (off : BitVec 8) :
    decodeVfp (encodeCdt c l true u false false rn fd 10 off) =
      if l then .flds c u rn (fd ++ 0#1) off else .fsts c u rn (fd ++ 0#1) off := by
  obtain ⟨hcdt, -⟩ := encodeCdt_fields c l true u false false rn fd 10 off
  rw [decodeVfp_cdt hcdt (by simp [isVfpWord, encodeCdt_fields])]
  simp [decodeDataTransfer, decodeOffsetTransfer, encodeCdt_fields]

/-- MCR and MRC of an even single register. -/
theorem decodeVfp_encodeCrt (c : Cond) (l : Bool) (fn rd : BitVec 4) :
    decodeVfp (encodeCrt c l 0 fn rd 10 0 0) = if l then .fmrs c (fn ++ 0#1) rd else .fmsr c (fn ++ 0#1) rd := by
  obtain ⟨hcrt, -⟩ := encodeCrt_fields c l 0 fn rd 10 0 0
  rw [decodeVfp_crt hcrt (by simp [isVfpWord, encodeCrt_fields])]
  cases l <;> simp [decodeRegisterTransfer, encodeCrt_fields]

section Words

variable {c : Cond} {s : State} (hr : VfpRuns c s) (u : Bool) (fd fn fm : BitVec 4) (rn rd : Reg) (off : BitVec 8)
include hr

theorem exec_ldc_single : exec (.ldc c true u false false rn fd 10 off) s = exec (.flds c u rn (fd ++ 0#1) off) s := by
  rw [exec_generic_eq rfl (by exact hr), encode, decodeVfp_encodeCdt, if_pos rfl]

theorem exec_stc_single : exec (.stc c true u false false rn fd 10 off) s = exec (.fsts c u rn (fd ++ 0#1) off) s := by
  rw [exec_generic_eq rfl (by exact hr), encode, decodeVfp_encodeCdt, if_neg Bool.false_ne_true]

theorem exec_cdp_add : exec (.cdp c 3 fn fd 10 0 fm) s =
    exec (.fadds c (fd ++ 0#1) (fn ++ 0#1) (fm ++ 0#1)) s := by
  obtain ⟨hcdo, -⟩ := encodeCdo_fields c 3 fn fd 10 0 fm
  rw [exec_generic_eq rfl (by exact hr), encode, decodeVfp_cdo hcdo (by simp [isVfpWord, encodeCdo_fields])]
  simp [decodeDataOperation, encodeCdo_fields]

theorem exec_mcr_single : exec (.mcr c 0 fn rd 10 0 0) s = exec (.fmsr c (fn ++ 0#1) rd) s := by
  rw [exec_generic_eq rfl (by exact hr), encode, decodeVfp_encodeCrt, if_neg Bool.false_ne_true]

theorem exec_mrc_single : exec (.mrc c 0 fn rd 10 0 0) s = exec (.fmrs c (fn ++ 0#1) rd) s := by
  rw [exec_generic_eq rfl (by exact hr), encode, decodeVfp_encodeCrt, if_pos rfl]

end Words

/-- Settles O58: a generic instruction is what the unit reads in its word, and the five words are rows of the unit. -/
theorem genericCoprocessor : Obligations.GenericCoprocessor := by
  intro i c u rn rd e n m off s
  refine ⟨exec_generic_eq, fun hr hs => ?_⟩
  obtain ⟨hflds, -, hfsts, -⟩ := vfpLoadsAndStores c u rn (e.extractLsb' 0 4 ++ 0#1) 0 off (.outOfRange 0 0) s hr hs
  simp only [SingleEffect, VfpStoreEffect, RegEffect, exec_ldc_single hr, exec_stc_single hr, exec_cdp_add hr,
    exec_mcr_single hr, exec_mrc_single hr]
  exact ⟨hflds, hfsts, singleEffect_of_setSReg (exec_vfpUnit hr rfl), singleEffect_of_setSReg (exec_vfpUnit hr rfl),
    regEffect_of_setReg (exec_vfpUnit hr rfl)⟩

end Sys2Proof.Proofs
end

section
/-!
PROOFS. The VFP unit's multiple transfers (49_vfp.md R414, R415, R418, R419): what the transfers before any point have
done, for loads and for stores, and from there what a whole transfer does and what a failing one leaves.
-/

namespace Sys2Proof.Proofs

open Sys2Proof.Machine Sys2Proof.Safety

/-! ## Addresses and write-back -/

theorem multipleSlot_eq (m : DtMode) (rn : Reg) (words : BitVec 8) (size k : Nat) (s : State) :
    multipleSlot m rn words size k s = multipleStart s m rn words + BitVec.ofNat 32 (size * k) := by
  cases m <;> simp [multipleSlot, multipleStart, wordsFrom_eq]

theorem setReg_reg (s : State) (r : Reg) : s.setReg r (s.reg r) = s := by
  simp [State.setReg, State.reg]

/-- The write-back is one write of the base: in the modes without one, of the value it has. -/
theorem multipleWriteBack_eq {m : DtMode} {rn : Reg} {words : BitVec 8} {s u : State} (h : u.reg rn = s.reg rn) :
    multipleWriteBack m rn (copReg s rn) words u = u.setReg rn (multipleFinal m rn words s) := by
  cases m
  case offset | ia => exact (setReg_reg u rn).symm.trans (congrArg _ h)
  case iaw | dbw => simp [multipleWriteBack, multipleFinal, wordsFrom_eq]

/-- Two registers of a transfer of at most 256 bytes are apart, whether the addresses wrap or not. -/
theorem slot_apart (start : Word) {size j k : Nat} (hkj : k < j) (hj : size * (j + 1) ≤ 256) :
    (start + BitVec.ofNat 32 (size * k)).toNat + size ≤ (start + BitVec.ofNat 32 (size * j)).toNat ∨
      (start + BitVec.ofNat 32 (size * j)).toNat + size ≤ (start + BitVec.ofNat 32 (size * k)).toNat := by
  have hk : size * (k + 1) ≤ size * j := Nat.mul_le_mul_left size hkj
  have := start.isLt
  rw [Nat.mul_succ] at hk hj
  generalize size * k = x at *
  generalize size * j = y at *
  simp only [BitVec.toNat_add, BitVec.toNat_ofNat]
  omega

/-! ## The loop of a whole transfer -/

section Multiple

variable {i : Instr} {m : DtMode} {rn : Reg} {words : BitVec 8} {file first count size : Nat} {s : State}
  {get : Nat → State → Nat} {touched : Nat → List SReg} {transfer : Nat → Word → State → Except MemFault State}

theorem vfpMultiple_eq_loop (hm : hasMode s m = true) (h0 : count ≠ 0) (hlist : first + count ≤ file) :
    vfpMultiple m rn words file first count size transfer s =
      multipleLoop size transfer (fun u => .next (multipleWriteBack m rn (copReg s rn) words u)) count 0
        (multipleStart s m rn words) s :=
  (inMode_has _ hm).trans (if_neg (by omega))

/-! ## Loads -/

/-- A transfer that loads register `j`: its value, the registers before it and the rest of the machine kept. -/
structure LoadsRegister (size : Nat) (get : Nat → State → Nat) (touched : Nat → List SReg)
    (transfer : Nat → Word → State → Except MemFault State) (j : Nat) : Prop where
  allowed : ∀ a u, Allowed u a size .read → ∃ u', transfer j a u = .ok u' ∧
    get j u' = u.mem.readN a.toNat size ∧ (∀ k < j, get k u' = get k u) ∧ OnlySlots (touched (j + 1)) u u'
  denied : ∀ a u f, checkAccess u a size .read = some f → transfer j a u = .error f
  grows : touched j ⊆ touched (j + 1)

/-- The first `j` registers are loaded and the rest is as before. -/
def LoadsDone (start : Word) (size : Nat) (get : Nat → State → Nat) (touched : Nat → List SReg) (s : State) (j : Nat)
    (u : State) : Prop :=
  (∀ k < j, get k u = s.mem.readN (start + BitVec.ofNat 32 (size * k)).toNat size) ∧ OnlySlots (touched j) s u

theorem onlySlots_trans {is js : List SReg} {t u : State} (h : OnlySlots is s t) (h' : OnlySlots js t u)
    (hsub : is ⊆ js) : OnlySlots js s u := by
  obtain ⟨hregs, hmem, hslots, hfpscr, ⟨hspsr, hfpexc, hranges, hsetup, hrun⟩, hcpsr⟩ := h
  obtain ⟨hregs', hmem', hslots', hfpscr', ⟨hspsr', hfpexc', hranges', hsetup', hrun'⟩, hcpsr'⟩ := h'
  refine ⟨fun r hr => (hregs' r hr).trans (hregs r hr), fun a => (hmem' a).trans (hmem a), fun j hj => ?_,
    hfpscr'.trans hfpscr, ⟨hspsr'.trans hspsr, hfpexc'.trans hfpexc, hranges'.trans hranges, hsetup'.trans hsetup,
    hrun'.trans hrun⟩, hcpsr'.trans hcpsr⟩
  exact (hslots' j hj).trans (hslots j fun hin => hj (hsub hin))

/-- The port answers alike while the ranges and the parameters stay. -/
theorem checkAccess_of_sameControl {t : State} (h : SameControl s t) (a : Word) (n : Nat) (kind : AccessKind) :
    checkAccess t a n kind = checkAccess s a n kind := by
  obtain ⟨-, -, hranges, hsetup, -⟩ := h
  exact checkAccess_congr hranges hsetup a n kind

theorem LoadsDone.step {start : Word} {j : Nat} {u : State} (h : LoadsDone start size get touched s j u)
    (hl : LoadsRegister size get touched transfer j)
    (ha : Allowed s (start + BitVec.ofNat 32 (size * j)) size .read) :
    ∃ u', transfer j (start + BitVec.ofNat 32 (size * j)) u = .ok u' ∧
      LoadsDone start size get touched s (j + 1) u' := by
  obtain ⟨hdone, honly⟩ := h
  have ⟨_, hmem, _, _, hcontrol, _⟩ := honly
  obtain ⟨u', hu', hj, hbefore, honly'⟩ := hl.allowed _ u ((checkAccess_of_sameControl hcontrol ..).trans ha)
  refine ⟨u', hu', fun k hk => ?_, onlySlots_trans honly honly' hl.grows⟩
  rcases Nat.lt_succ_iff_lt_or_eq.mp hk with hk | rfl
  · rw [hbefore k hk, hdone k hk]
  · rw [hj, Memory.readN_congr _ _ fun b _ _ => hmem b]

/-- The loop after `j` loads that the port lets through. -/
theorem multipleLoop_loads {start : Word} {j : Nat} (n : Nat) (k : State → Result)
    (hl : ∀ x < j, LoadsRegister size get touched transfer x)
    (ha : ∀ x < j, Allowed s (start + BitVec.ofNat 32 (size * x)) size .read) :
    ∃ u, LoadsDone start size get touched s j u ∧ multipleLoop size transfer k (j + n) 0 start s =
      multipleLoop size transfer k n j (start + BitVec.ofNat 32 (size * j)) u := by
  have h0 : LoadsDone start size get touched s 0 s := ⟨fun _ hk => absurd hk (Nat.not_lt_zero _), onlySlots_refl _ s⟩
  have h := multipleLoop_prefix (transfer := transfer) (k := k) (i := 0) (n := n) h0 (m := j) fun x hx u hu => by
    rw [Nat.zero_add]
    exact hu.step (hl x hx) (ha x hx)
  rwa [Nat.zero_add] at h

/-- A load multiple that the port lets through. -/
theorem fldmEffect (hi : exec i s = vfpMultiple m rn words file first count size transfer s) (hm : hasMode s m = true)
    (h0 : count ≠ 0) (hlist : first + count ≤ file) (hl : ∀ x < count, LoadsRegister size get touched transfer x)
    (hget : ∀ k u v, get k (State.setReg u rn v) = get k u) :
    FldmEffect i m rn words size count get (touched count) s := by
  intro ha
  simp only [multipleSlot_eq] at ha ⊢
  obtain ⟨u, ⟨hdone, hregs, hrest⟩, hloop⟩ := multipleLoop_loads 0
    (fun u => .next (multipleWriteBack m rn (copReg s rn) words u)) hl ha
  rw [Nat.add_zero, multipleLoop, multipleWriteBack_eq (hregs rn (by simp))] at hloop
  refine ⟨_, (hi.trans (vfpMultiple_eq_loop hm h0 hlist)).trans hloop, fun k hk => (hget k u _).trans (hdone k hk),
    by simp, ?_, hrest⟩
  exact regsBut_setReg (fun r _ => hregs r (by simp)) (by simp) _

/-- A load multiple whose transfer `k0` the port turns away. -/
theorem fldmStopsAt (hi : exec i s = vfpMultiple m rn words file first count size transfer s) (hm : hasMode s m = true)
    (hlist : first + count ≤ file) (hl : ∀ x < count, LoadsRegister size get touched transfer x) :
    FldmStopsAt i m rn words size count get touched s := by
  intro k0 hk0 f hf ha
  simp only [multipleSlot_eq] at hf ha ⊢
  obtain ⟨u, ⟨hdone, honly⟩, hloop⟩ := multipleLoop_loads (count - k0 - 1 + 1)
    (fun u => .next (multipleWriteBack m rn (copReg s rn) words u)) (fun x hx => hl x (hx.trans hk0)) ha
  obtain ⟨hregs, hmem, hslots, hfpscr, hcontrol, hcpsr⟩ := honly
  have hdenied := (hl k0 hk0).denied _ u f ((checkAccess_of_sameControl hcontrol ..).trans hf)
  rw [show k0 + (count - k0 - 1 + 1) = count by omega, multipleLoop_succ, hdenied] at hloop
  exact ⟨u, (hi.trans (vfpMultiple_eq_loop hm (by omega) hlist)).trans hloop, hdone, hregs, hmem, hslots, hfpscr,
    hcontrol, hcpsr⟩

/-! ## Stores -/

/-- A transfer that stores register `j`: one write of the port, of a value that fits. -/
structure StoresRegister (size : Nat) (get : Nat → State → Nat) (transfer : Nat → Word → State → Except MemFault State)
    (j : Nat) : Prop where
  writes : ∀ a u, transfer j a u = memWrite u a size (get j u)
  fits : ∀ u, get j u < 256 ^ size
  reads : ∀ t u, SlotsBut [] t u → get j u = get j t

/-- The machine but its memory is as before. -/
def OnlyMemory (s u : State) : Prop := RegsBut [] s u ∧ SameVfp s u ∧ SameControl s u ∧ u.cpsr = s.cpsr

/-- The first `j` registers are stored and the rest is as before. -/
def StoresDone (start : Word) (size : Nat) (get : Nat → State → Nat) (s : State) (j : Nat) (u : State) : Prop :=
  (∀ k < j, u.mem.readN (start + BitVec.ofNat 32 (size * k)).toNat size = get k s) ∧
    (∀ b : Nat, (∀ k < j, b < (start + BitVec.ofNat 32 (size * k)).toNat ∨
      (start + BitVec.ofNat 32 (size * k)).toNat + size ≤ b) → u.mem.read b = s.mem.read b) ∧
    OnlyMemory s u ∧ Memory.wf u.mem

theorem StoresDone.step {start : Word} {j : Nat} {u : State} (h : StoresDone start size get s j u)
    (hst : StoresRegister size get transfer j) (hj : size * (j + 1) ≤ 256)
    (ha : Allowed s (start + BitVec.ofNat 32 (size * j)) size .write) :
    ∃ u', transfer j (start + BitVec.ofNat 32 (size * j)) u = .ok u' ∧ StoresDone start size get s (j + 1) u' := by
  obtain ⟨hdone, houtside, honly, hwf⟩ := h
  have ⟨_, ⟨hslots, _⟩, hcontrol, _⟩ := honly
  have hread : get j u = get j s := hst.reads s u hslots
  refine ⟨_, (hst.writes _ u).trans (memWrite_ok_iff.mpr ⟨(checkAccess_of_sameControl hcontrol ..).trans ha, rfl⟩),
    fun k hk => ?_, fun b hb => ?_, honly, Memory.writeN_wf _ _ _ hwf⟩
  · rcases Nat.lt_succ_iff_lt_or_eq.mp hk with hk | rfl
    · rw [← hdone k hk]
      refine Memory.readN_congr _ _ fun b hb hb' => Memory.read_writeN_of_outside _ _ _ _ hwf ?_
      have := slot_apart start hk hj
      omega
    · rw [Memory.readN_writeN _ _ _ hwf, Nat.mod_eq_of_lt (hst.fits u), hread]
  · rw [Memory.read_writeN_of_outside _ _ _ _ hwf (hb j (Nat.lt_succ_self j))]
    exact houtside b fun k hk => hb k (Nat.lt_succ_of_lt hk)

/-- The loop after `j` stores that the port lets through. -/
theorem multipleLoop_stores {start : Word} {j : Nat} (n : Nat) (k : State → Result) (hwf : Memory.wf s.mem)
    (hst : ∀ x < j, StoresRegister size get transfer x) (hj : size * j ≤ 256)
    (ha : ∀ x < j, Allowed s (start + BitVec.ofNat 32 (size * x)) size .write) :
    ∃ u, StoresDone start size get s j u ∧ multipleLoop size transfer k (j + n) 0 start s =
      multipleLoop size transfer k n j (start + BitVec.ofNat 32 (size * j)) u := by
  have h0 : StoresDone start size get s 0 s :=
    ⟨fun _ hk => absurd hk (Nat.not_lt_zero _), fun _ _ => rfl,
      ⟨fun _ _ => rfl, ⟨fun _ _ => rfl, rfl⟩, ⟨rfl, rfl, rfl, rfl, rfl⟩, rfl⟩, hwf⟩
  have h := multipleLoop_prefix (transfer := transfer) (k := k) (i := 0) (n := n) h0 (m := j) fun x hx u hu => by
    rw [Nat.zero_add]
    exact hu.step (hst x hx) ((Nat.mul_le_mul_left size hx).trans hj) (ha x hx)
  rwa [Nat.zero_add] at h

/-- A store multiple that the port lets through. -/
theorem fstmEffect (hs : Invariant s) (hi : exec i s = vfpMultiple m rn words file first count size transfer s)
    (hm : hasMode s m = true) (h0 : count ≠ 0) (hlist : first + count ≤ file) (hfile : size * file ≤ 256)
    (hst : ∀ x < count, StoresRegister size get transfer x) : FstmEffect i m rn words size count get s := by
  intro ha
  simp only [multipleSlot_eq] at ha ⊢
  obtain ⟨hwf, -⟩ := hs
  have hcount : size * count ≤ 256 := (Nat.mul_le_mul_left size (by omega)).trans hfile
  obtain ⟨u, ⟨hdone, houtside, ⟨hregs, hrest⟩, -⟩, hloop⟩ := multipleLoop_stores 0
    (fun u => .next (multipleWriteBack m rn (copReg s rn) words u)) hwf hst hcount ha
  rw [Nat.add_zero, multipleLoop, multipleWriteBack_eq (hregs rn (by simp))] at hloop
  refine ⟨_, (hi.trans (vfpMultiple_eq_loop hm h0 hlist)).trans hloop, hdone, by simp, ?_, houtside, hrest⟩
  exact regsBut_setReg (fun r _ => hregs r (by simp)) (by simp) _

/-- A store multiple whose transfer `k0` the port turns away. -/
theorem fstmStopsAt (hs : Invariant s) (hi : exec i s = vfpMultiple m rn words file first count size transfer s)
    (hm : hasMode s m = true) (hlist : first + count ≤ file) (hfile : size * file ≤ 256)
    (hst : ∀ x < count, StoresRegister size get transfer x) : FstmStopsAt i m rn words size count get s := by
  intro k0 hk0 f hf ha
  simp only [multipleSlot_eq] at hf ha ⊢
  obtain ⟨hwf, -⟩ := hs
  have hcount : size * k0 ≤ 256 := (Nat.mul_le_mul_left size (by omega)).trans hfile
  obtain ⟨u, ⟨hdone, houtside, ⟨hregs, hvfp, hcontrol, hcpsr⟩, -⟩, hloop⟩ := multipleLoop_stores (count - k0 - 1 + 1)
    (fun u => .next (multipleWriteBack m rn (copReg s rn) words u)) hwf (fun x hx => hst x (hx.trans hk0)) hcount ha
  have hdenied := ((hst k0 hk0).writes (multipleStart s m rn words + BitVec.ofNat 32 (size * k0)) u).trans
    (memWrite_error_iff.mpr ((checkAccess_of_sameControl hcontrol ..).trans hf))
  rw [show k0 + (count - k0 - 1 + 1) = count by omega, multipleLoop_succ, hdenied] at hloop
  exact ⟨u, (hi.trans (vfpMultiple_eq_loop hm (by omega) hlist)).trans hloop, hdone, houtside, hregs, hvfp, hcontrol,
    hcpsr⟩

end Multiple

/-! ## Singles and doubles as registers of a transfer -/

/-- Different numbers of one transfer name different registers. -/
theorem add_ofNat_ne {n : Nat} (f : BitVec n) {j k : Nat} (hkj : k < j) (hj : j < 2 ^ n) :
    f + BitVec.ofNat n j ≠ f + BitVec.ofNat n k := by
  rw [Ne, BitVec.add_right_inj, ← BitVec.toNat_inj, BitVec.toNat_ofNat, BitVec.toNat_ofNat,
    Nat.mod_eq_of_lt hj, Nat.mod_eq_of_lt (hkj.trans hj)]
  exact hkj.ne'

theorem loadsRegister_single (f : SReg) {j : Nat} (hj : j < 32) :
    LoadsRegister 4 (singleAt f) (singlesFrom f) (loadSingle f) j where
  allowed a u ha := by
    have hv := memRead_ok_iff.mpr ⟨ha, rfl⟩
    refine ⟨u.setSReg (f + BitVec.ofNat 5 j) (BitVec.ofNat 32 (u.mem.readN a.toNat 4)), by simp only [loadSingle, hv],
      ?_, fun k hk => ?_, onlySlots_setSReg (onlySlots_refl _ u) ?_ _⟩
    · have := u.mem.readN_lt a.toNat 4
      simp only [singleAt, State.sreg_setSReg, if_true, BitVec.toNat_ofNat]
      exact Nat.mod_eq_of_lt this
    · simp [singleAt, add_ofNat_ne f hk hj]
    · exact List.mem_map_of_mem (List.mem_range.mpr (Nat.lt_succ_self j))
  denied a u f' hf := by simp only [loadSingle, memRead_error_iff.mpr hf]
  grows := List.map_subset _ (List.range_subset.mpr (Nat.le_succ j))

theorem loadsRegister_double (g : DReg) {j : Nat} (hj : j < 16) :
    LoadsRegister 8 (doubleAt g) (doublesFrom g) (loadDouble g) j where
  allowed a u ha := by
    have hv := memRead_ok_iff.mpr ⟨ha, rfl⟩
    have hin : j ∈ List.range (j + 1) := List.mem_range.mpr (Nat.lt_succ_self j)
    refine ⟨u.setDReg (g + BitVec.ofNat 4 j) (BitVec.ofNat 64 (u.mem.readN a.toNat 8)), by simp only [loadDouble, hv],
      ?_, fun k hk => ?_, onlySlots_setDReg (onlySlots_refl _ u) ?_ ?_ _⟩
    · have := u.mem.readN_lt a.toNat 8
      simp only [doubleAt, dreg_setDReg_same, BitVec.toNat_ofNat]
      exact Nat.mod_eq_of_lt this
    · simp only [doubleAt, dreg_setDReg_of_ne u (add_ofNat_ne g hk hj)]
    · exact List.mem_flatMap.mpr ⟨j, hin, by simp⟩
    · exact List.mem_flatMap.mpr ⟨j, hin, by simp⟩
  denied a u f' hf := by simp only [loadDouble, memRead_error_iff.mpr hf]
  grows i hi := by
    obtain ⟨k, hk, hik⟩ := List.mem_flatMap.mp hi
    exact List.mem_flatMap.mpr ⟨k, List.range_subset.mpr (Nat.le_succ j) hk, hik⟩

theorem storesRegister_single (f : SReg) (j : Nat) : StoresRegister 4 (singleAt f) (storeSingle f) j where
  writes _ _ := rfl
  fits u := (u.sreg _).isLt
  reads _ _ h := congrArg BitVec.toNat (h _ List.not_mem_nil)

theorem storesRegister_double (g : DReg) (j : Nat) : StoresRegister 8 (doubleAt g) (storeDouble g) j where
  writes _ _ := rfl
  fits u := (u.dreg _).isLt
  reads t u h := by
    simp only [doubleAt, State.dreg, h _ List.not_mem_nil]

/-! ## The eight forms -/

/-- Settles O56: each form is the loop of its mode and precision. -/
theorem vfpMultipleTransfers : Obligations.VfpMultipleTransfers := by
  intro c w rn f g n k s hr hs
  refine ⟨fun hn hlist => ?_, fun hk hlist => ?_⟩
  · have h0 : n.toNat ≠ 0 := fun h => hn (BitVec.eq_of_toNat_eq h)
    have hl (x : Nat) (hx : x < n.toNat) := loadsRegister_single f (show x < 32 by omega)
    have hst (x : Nat) (_ : x < n.toNat) := storesRegister_single f x
    refine ⟨fun hm => ⟨?_, ?_, ?_, ?_⟩, fun hm => ⟨?_, ?_, ?_, ?_⟩⟩
    · exact fldmEffect (exec_fldmias hr w rn f n) hm h0 hlist hl fun _ _ _ => rfl
    · exact fstmEffect hs (exec_fstmias hr w rn f n) hm h0 hlist (by decide) hst
    · exact fldmStopsAt (exec_fldmias hr w rn f n) hm hlist hl
    · exact fstmStopsAt hs (exec_fstmias hr w rn f n) hm hlist (by decide) hst
    · exact fldmEffect (exec_fldmdbs hr rn f n) hm h0 hlist hl fun _ _ _ => rfl
    · exact fstmEffect hs (exec_fstmdbs hr rn f n) hm h0 hlist (by decide) hst
    · exact fldmStopsAt (exec_fldmdbs hr rn f n) hm hlist hl
    · exact fstmStopsAt hs (exec_fstmdbs hr rn f n) hm hlist (by decide) hst
  · have h0 : k.toNat ≠ 0 := fun h => hk (BitVec.eq_of_toNat_eq h)
    have hl (x : Nat) (hx : x < k.toNat) := loadsRegister_double g (show x < 16 by omega)
    have hst (x : Nat) (_ : x < k.toNat) := storesRegister_double g x
    refine ⟨fun hm => ⟨?_, ?_, ?_, ?_⟩, fun hm => ⟨?_, ?_, ?_, ?_⟩⟩
    · exact fldmEffect (exec_fldmiad hr w rn g k) hm h0 hlist hl fun _ _ _ => rfl
    · exact fstmEffect hs (exec_fstmiad hr w rn g k) hm h0 hlist (by decide) hst
    · exact fldmStopsAt (exec_fldmiad hr w rn g k) hm hlist hl
    · exact fstmStopsAt hs (exec_fstmiad hr w rn g k) hm hlist (by decide) hst
    · exact fldmEffect (exec_fldmdbd hr rn g k) hm h0 hlist hl fun _ _ _ => rfl
    · exact fstmEffect hs (exec_fstmdbd hr rn g k) hm h0 hlist (by decide) hst
    · exact fldmStopsAt (exec_fldmdbd hr rn g k) hm hlist hl
    · exact fstmStopsAt hs (exec_fstmdbd hr rn g k) hm hlist (by decide) hst

end Sys2Proof.Proofs
end

section
/-!
PROOFS. The values of floating-point patterns (49_vfp.md R421, R422): the model's integer value of a finite pattern is
its rational value counted in units of the smallest subnormal number, so the class compares the rational values and the
truncating conversions truncate them; an infinity lies beyond every finite pattern.
-/

namespace Sys2Proof.Proofs

open Sys2Proof.Machine Sys2Proof.Safety

/-! ## Values in units of the smallest subnormal number -/

/-- The smallest subnormal number of a format. -/
def subnormalUnit (f : FpFormat) : ℚ := (2 : ℚ) ^ ((1 : ℤ) - bias f - f.frac)

theorem subnormalUnit_pos (f : FpFormat) : 0 < subnormalUnit f := zpow_pos two_pos _

/-- There are `2^(bias - 1 + frac)` of these units in 1. -/
theorem subnormalUnit_eq_inv {f : FpFormat} (hf : 1 < f.exp) :
    subnormalUnit f = ((2 ^ (2 ^ (f.exp - 1) - 2 + f.frac) : ℕ) : ℚ)⁻¹ := by
  have h2 : 2 ≤ 2 ^ (f.exp - 1) := Nat.le_self_pow (by omega) 2
  rw [subnormalUnit, Nat.cast_pow, Nat.cast_ofNat, ← zpow_natCast, ← zpow_neg]
  congr 1
  unfold bias
  omega

/-- The sign of a pattern as a factor. -/
def signFactor (f : FpFormat) (b : Nat) : ℚ := if fpSign f b then -1 else 1

theorem fpValue_of_plus {f : FpFormat} {b : Nat} (h : fpSign f b = false) : fpValue f b = fpMagnitude f b := by
  simp [fpValue, h]

theorem fpValue_of_minus {f : FpFormat} {b : Nat} (h : fpSign f b = true) : fpValue f b = -fpMagnitude f b := by
  simp [fpValue, h]

theorem abs_fpValue (f : FpFormat) (b : Nat) : |fpValue f b| = fpMagnitude f b := by
  unfold fpValue
  split <;> simp

theorem fpValue_cast (f : FpFormat) (b : Nat) : (fpValue f b : ℚ) = signFactor f b * fpMagnitude f b := by
  unfold fpValue signFactor
  split <;> simp

theorem ratValue_eq (f : FpFormat) (b : Nat) : ratValue f b = fpValue f b * subnormalUnit f := by
  have two : (2 : ℚ) ≠ 0 := two_ne_zero
  rw [fpValue_cast]
  by_cases he : fpExponent f b = 0
  · simp only [ratValue, fpMagnitude, if_pos he, subnormalUnit, zpow_sub₀ two, zpow_natCast, signFactor]
    ring
  · have split : (2 : ℚ) ^ ((fpExponent f b : ℤ) - bias f) =
        2 ^ (fpExponent f b - 1) * 2 ^ ((1 : ℤ) - bias f) := by
      rw [← zpow_natCast, ← zpow_add₀ two]
      congr 1
      omega
    simp only [ratValue, fpMagnitude, if_neg he, split, subnormalUnit, zpow_sub₀ two, zpow_natCast, signFactor]
    push_cast
    field_simp

theorem ratValue_lt_iff (f : FpFormat) (a b : Nat) : ratValue f a < ratValue f b ↔ fpValue f a < fpValue f b := by
  rw [ratValue_eq, ratValue_eq, mul_lt_mul_iff_left₀ (subnormalUnit_pos f), Int.cast_lt]

theorem ratValue_inj_iff (f : FpFormat) (a b : Nat) : ratValue f a = ratValue f b ↔ fpValue f a = fpValue f b := by
  rw [ratValue_eq, ratValue_eq, mul_left_inj' (subnormalUnit_pos f).ne', Int.cast_inj]

/-! ## NaNs, infinities and finite patterns -/

theorem fpIsNan_iff (f : FpFormat) (b : Nat) : fpIsNan f b = true ↔ isSpecial f b = true ∧ fpFraction f b ≠ 0 := by
  simp [fpIsNan, isSpecial]

theorem fpIsNan_of_finite {f : FpFormat} {b : Nat} (h : isSpecial f b = false) : fpIsNan f b = false := by
  simp [Bool.eq_false_iff, fpIsNan_iff, h]

/-- The magnitude the model gives an infinity. -/
def infinityMagnitude (f : FpFormat) : Nat := 2 ^ f.frac * 2 ^ (2 ^ f.exp - 2)

theorem fpMagnitude_infinity {f : FpFormat} {b : Nat} (hf : 1 < f.exp) (hs : isSpecial f b = true)
    (hn : fpIsNan f b = false) : fpMagnitude f b = infinityMagnitude f := by
  have he : fpExponent f b = 2 ^ f.exp - 1 := by simpa [isSpecial] using hs
  have hfrac : fpFraction f b = 0 := by simpa [Bool.eq_false_iff, fpIsNan_iff, hs] using hn
  have h2 : 2 ≤ 2 ^ f.exp := Nat.le_self_pow (by omega) 2
  rw [fpMagnitude, he, hfrac, if_neg (by omega), infinityMagnitude, Nat.add_zero, Nat.sub_sub]

theorem fpMagnitude_lt_infinity {f : FpFormat} {b : Nat} (h : isSpecial f b = false) :
    fpMagnitude f b < infinityMagnitude f := by
  have hfrac : fpFraction f b < 2 ^ f.frac := Nat.mod_lt _ (Nat.two_pow_pos _)
  have he : fpExponent f b ≤ 2 ^ f.exp - 2 := by
    have hlt : fpExponent f b < 2 ^ f.exp := Nat.mod_lt _ (Nat.two_pow_pos _)
    have hne : fpExponent f b ≠ 2 ^ f.exp - 1 := by simpa [isSpecial] using h
    omega
  by_cases h0 : fpExponent f b = 0
  · rw [fpMagnitude, if_pos h0]
    exact hfrac.trans_le (Nat.le_mul_of_pos_right _ (Nat.two_pow_pos _))
  · rw [fpMagnitude, if_neg h0]
    calc (2 ^ f.frac + fpFraction f b) * 2 ^ (fpExponent f b - 1)
        < (2 ^ f.frac * 2) * 2 ^ (fpExponent f b - 1) :=
          Nat.mul_lt_mul_of_pos_right (by omega) (Nat.two_pow_pos _)
      _ = 2 ^ f.frac * 2 ^ fpExponent f b := by
          rw [Nat.mul_assoc, ← Nat.pow_succ', Nat.succ_eq_add_one, Nat.sub_add_cancel (by omega)]
      _ ≤ infinityMagnitude f := Nat.mul_le_mul_left _ (Nat.pow_le_pow_right two_pos he)

/-! ## The class -/

theorem fpClass_eq_unordered_iff (f : FpFormat) (a b : Nat) :
    fpClass f a b = .unordered ↔ fpIsNan f a = true ∨ fpIsNan f b = true := by
  unfold fpClass
  split_ifs <;> simp_all

section Ordered

variable {f : FpFormat} {a b : Nat} (ha : fpIsNan f a = false) (hb : fpIsNan f b = false)

include ha hb

theorem fpClass_eq_lt_iff : fpClass f a b = .lt ↔ fpValue f a < fpValue f b := by
  simp only [fpClass, ha, hb]
  split_ifs <;> simp_all

theorem fpClass_eq_eq_iff : fpClass f a b = .eq ↔ fpValue f a = fpValue f b := by
  simp only [fpClass, ha, hb]
  split_ifs <;> simp_all
  omega

theorem fpClass_eq_gt_iff : fpClass f a b = .gt ↔ fpValue f b < fpValue f a := by
  simp only [fpClass, ha, hb]
  split_ifs <;> simp_all <;> omega

end Ordered

theorem fpClass_infinity_finite {f : FpFormat} {a b : Nat} (hf : 1 < f.exp) (hs : isSpecial f a = true)
    (ha : fpIsNan f a = false) (hfin : isSpecial f b = false) :
    fpClass f a b = (if fpSign f a then .lt else .gt) ∧ fpClass f b a = (if fpSign f a then .gt else .lt) := by
  have hb := fpIsNan_of_finite hfin
  have hlt : |fpValue f b| < fpMagnitude f a := by
    rw [abs_fpValue, fpMagnitude_infinity hf hs ha]
    exact_mod_cast fpMagnitude_lt_infinity hfin
  obtain ⟨hlow, hhigh⟩ := abs_lt.mp hlt
  cases hsign : fpSign f a
  · rw [← fpValue_of_plus hsign] at hhigh
    exact ⟨(fpClass_eq_gt_iff ha hb).mpr hhigh, (fpClass_eq_lt_iff hb ha).mpr hhigh⟩
  · rw [← fpValue_of_minus hsign] at hlow
    exact ⟨(fpClass_eq_lt_iff ha hb).mpr hlow, (fpClass_eq_gt_iff hb ha).mpr hlow⟩

theorem fpClass_infinities {f : FpFormat} {a b : Nat} (hf : 1 < f.exp) (hsa : isSpecial f a = true)
    (ha : fpIsNan f a = false) (hsb : isSpecial f b = true) (hb : fpIsNan f b = false) :
    fpClass f a b = if fpSign f a = fpSign f b then .eq else if fpSign f a then .lt else .gt := by
  have hpos : 0 < infinityMagnitude f := Nat.mul_pos (Nat.two_pow_pos _) (Nat.two_pow_pos _)
  have hma := fpMagnitude_infinity hf hsa ha
  have hmb := fpMagnitude_infinity hf hsb hb
  cases hsigna : fpSign f a <;> cases hsignb : fpSign f b
  · exact (fpClass_eq_eq_iff ha hb).mpr (by rw [fpValue_of_plus hsigna, fpValue_of_plus hsignb, hma, hmb])
  · exact (fpClass_eq_gt_iff ha hb).mpr (by rw [fpValue_of_plus hsigna, fpValue_of_minus hsignb]; omega)
  · exact (fpClass_eq_lt_iff ha hb).mpr (by rw [fpValue_of_minus hsigna, fpValue_of_plus hsignb]; omega)
  · exact (fpClass_eq_eq_iff ha hb).mpr (by rw [fpValue_of_minus hsigna, fpValue_of_minus hsignb, hma, hmb])

theorem one_lt_exp {f : FpFormat} (hf : f ∈ [fpSingle, fpDouble]) : 1 < f.exp := by
  revert f
  decide

/-- Settles O51: a finite pattern's integer value is its rational value in units of the smallest subnormal number, and
an infinity's magnitude is above every finite one. -/
theorem compareClassIsOrder : Obligations.CompareClassIsOrder := by
  intro f hf a b
  refine ⟨fpIsNan_iff f a, fpClass_eq_unordered_iff f a b, fun hfa hfb => ?_,
    fpClass_infinity_finite (one_lt_exp hf), fpClass_infinities (one_lt_exp hf)⟩
  have ha := fpIsNan_of_finite hfa
  have hb := fpIsNan_of_finite hfb
  rw [ratValue_lt_iff, ratValue_inj_iff, ratValue_lt_iff]
  exact ⟨fpClass_eq_lt_iff ha hb, fpClass_eq_eq_iff ha hb, fpClass_eq_gt_iff ha hb⟩

/-! ## The truncating conversions -/

theorem trunc_neg (v : ℚ) : trunc (-v) = -trunc v := by
  unfold trunc
  rcases lt_trichotomy v 0 with h | rfl | h
  · rw [if_pos (by linarith), if_neg (by linarith), Int.floor_neg]
  · simp
  · rw [if_neg (by linarith), if_pos h.le, Int.ceil_neg]

theorem trunc_natCast_div (m d : Nat) : trunc ((m : ℚ) / d) = (m / d : ℕ) := by
  rw [trunc, if_pos (by positivity), Rat.floor_natCast_div_natCast, Int.natCast_div]

theorem trunc_ratValue {f : FpFormat} (hf : 1 < f.exp) (b : Nat) : trunc (ratValue f b) = fpTrunc f b := by
  rw [ratValue_eq, subnormalUnit_eq_inv hf, ← div_eq_mul_inv]
  cases hs : fpSign f b
  · rw [fpValue_of_plus hs, Int.cast_natCast, trunc_natCast_div, fpTrunc, hs]
    rfl
  · rw [fpValue_of_minus hs, Int.cast_neg, Int.cast_natCast, neg_div, trunc_neg, trunc_natCast_div, fpTrunc, hs]
    rfl

theorem fpTruncIn_getD {f : FpFormat} {lo hi : ℤ} {b : Nat} (hf : 1 < f.exp) (h : isSpecial f b = false)
    (hlo : lo ≤ trunc (ratValue f b)) (hhi : trunc (ratValue f b) ≤ hi) (other : Word) :
    (fpTruncIn f lo hi b).getD other = BitVec.ofInt 32 (trunc (ratValue f b)) := by
  rw [trunc_ratValue hf] at *
  simp only [fpTruncIn, fpIsNan_of_finite h, Bool.false_eq_true, if_false, if_pos (And.intro hlo hhi), Option.getD_some]

theorem ofInt_toNat_of_unsigned {v : ℤ} (h0 : 0 ≤ v) (h1 : v ≤ 2 ^ 32 - 1) : ((BitVec.ofInt 32 v).toNat : ℤ) = v := by
  rw [BitVec.toNat_ofInt]
  omega

theorem ofInt_toInt_of_signed {v : ℤ} (h0 : -2 ^ 31 ≤ v) (h1 : v ≤ 2 ^ 31 - 1) : (BitVec.ofInt 32 v).toInt = v := by
  rw [BitVec.toInt_ofInt, Int.bmod_eq_of_le] <;> omega

theorem fpTruncIn_unsigned {f : FpFormat} {b : Nat} (hf : 1 < f.exp) (h : isSpecial f b = false) (other : Word)
    (h0 : 0 ≤ trunc (ratValue f b)) (h1 : trunc (ratValue f b) ≤ 2 ^ 32 - 1) :
    (((fpTruncIn f 0 (2 ^ 32 - 1) b).getD other).toNat : ℤ) = trunc (ratValue f b) := by
  rw [fpTruncIn_getD hf h h0 h1, ofInt_toNat_of_unsigned h0 h1]

theorem fpTruncIn_signed {f : FpFormat} {b : Nat} (hf : 1 < f.exp) (h : isSpecial f b = false) (other : Word)
    (h0 : -2 ^ 31 ≤ trunc (ratValue f b)) (h1 : trunc (ratValue f b) ≤ 2 ^ 31 - 1) :
    ((fpTruncIn f (-2 ^ 31) (2 ^ 31 - 1) b).getD other).toInt = trunc (ratValue f b) := by
  rw [fpTruncIn_getD hf h h0 h1, ofInt_toInt_of_signed h0 h1]

/-- Settles O52: the model's quotient of the magnitude by the number of units in 1 is the truncation of the rational
value, and a value in range survives the cast to 32 bits. -/
theorem truncatingConversions : Obligations.TruncatingConversions :=
  ⟨fun _ h => ⟨fpTruncIn_unsigned (by decide) h _, fpTruncIn_signed (by decide) h _⟩,
    fun _ h => ⟨fpTruncIn_unsigned (by decide) h _, fpTruncIn_signed (by decide) h _⟩⟩

end Sys2Proof.Proofs
end
